-- ==== Sys2Proof/Word.lean ====
section
/-! DEFINITION. The two word sizes of the S1C88: 8-bit data, 16-bit logical addresses and registers
(00_scope.md R4, R5). -/

namespace Sys2Proof

/-- The unit of data and of memory: 8 bits (00_scope.md R4). -/
abbrev Byte := BitVec 8

/-- A logical address or a 16-bit register (00_scope.md R4). -/
abbrev Word := BitVec 16

end Sys2Proof
end

