-- ==== Sys2Proof/Config.lean ====
section
/-! DEFINITION. What a device fixes about the core (00_scope.md R3) and the values that the spec leaves
open. A free value is an opaque constant without a body: no proof can learn anything about it. -/

namespace Sys2Proof

/-- The four CPU models (00_scope.md R3, Table 2.1.1). -/
inductive CpuModel where
  | model0
  | model1
  | model2
  | model3
deriving DecidableEq, Repr

/-- The level of the MODE pin (00_scope.md R3, Table 2.1.2); it matters on MODEL2 and MODEL3 only. -/
inductive PinMode where
  | minimum
  | maximum
deriving DecidableEq, Repr

namespace Config

/-- The result byte of decimal arithmetic on a digit above 9 (10_state.md R42, 93 U6; log 11). -/
opaque bcdResult : Nat → Byte

/-- The carry of decimal arithmetic on a digit above 9 (10_state.md R42, 93 U6; log 11). -/
opaque bcdCarry : Nat → Bool

/-- The zero flag of decimal arithmetic on a digit above 9 (10_state.md R42, 93 U6; log 11). -/
opaque bcdZero : Nat → Bool

/-- A after a reset during the run (10_state.md R55, 93 U3; log 2). -/
opaque resetA : Nat → Byte

/-- B after a reset during the run (10_state.md R55, 93 U3; log 2). -/
opaque resetB : Nat → Byte

/-- L after a reset during the run (10_state.md R55, 93 U3; log 2). -/
opaque resetL : Nat → Byte

/-- H after a reset during the run (10_state.md R55, 93 U3; log 2). -/
opaque resetH : Nat → Byte

/-- BR after a reset during the run (10_state.md R55, 93 U3; log 2). -/
opaque resetBR : Nat → Byte

/-- IX after a reset during the run (10_state.md R55, 93 U3; log 2). -/
opaque resetIX : Nat → Word

/-- IY after a reset during the run (10_state.md R55, 93 U3; log 2). -/
opaque resetIY : Nat → Word

/-- SP after a reset during the run (10_state.md R55, 93 U3; log 2). -/
opaque resetSP : Nat → Word

/-- Whether a prefetch that overlaps a store to the same byte got the old byte
(70_reset_and_hazards.md R671, 93 U10; log 14). -/
opaque prefetchOld : Nat → Bool

end Config

end Sys2Proof
end

