-- ==== Sys2Proof/Syntax.lean ====
section
/-! DEFINITION. The instructions of the S1C88: one constructor per row of spec/opcode_table.json,
those with operand bytes first (compiled code limits the tag of a constructor with fields), each group in the
table's order. A name is the operation followed by its operands, destination first; `atIXdd` is the memory
operand [IX+dd], `imm` an immediate. Operand bytes are the arguments: `mmnn`, `hhll`, `qqrr` are 16-bit values
with their first letter pair as the high byte (30_encoding.md R103). -/

namespace Sys2Proof

/-- An instruction (30_encoding.md R105, R111). -/
inductive Instr where
  /-- `LD NB,#bb`, R135. -/
  | ldNB_imm (bb : Byte)
  /-- `LD EP,#pp`, R136. -/
  | ldEP_imm (pp : Byte)
  /-- `LD XP,#pp`, R137. -/
  | ldXP_imm (pp : Byte)
  /-- `LD YP,#pp`, R138. -/
  | ldYP_imm (pp : Byte)
  /-- `LD A,#nn`, R141. -/
  | ldA_imm (nn : Byte)
  /-- `LD B,#nn`, R141. -/
  | ldB_imm (nn : Byte)
  /-- `LD L,#nn`, R141. -/
  | ldL_imm (nn : Byte)
  /-- `LD H,#nn`, R141. -/
  | ldH_imm (nn : Byte)
  /-- `LD BR,#hh`, R142. -/
  | ldBR_imm (hh : Byte)
  /-- `LD SC,#nn`, R143. -/
  | ldSC_imm (nn : Byte)
  /-- `LD A,[BR:ll]`, R144. -/
  | ldA_atBRll (ll : Byte)
  /-- `LD B,[BR:ll]`, R144. -/
  | ldB_atBRll (ll : Byte)
  /-- `LD L,[BR:ll]`, R144. -/
  | ldL_atBRll (ll : Byte)
  /-- `LD H,[BR:ll]`, R144. -/
  | ldH_atBRll (ll : Byte)
  /-- `LD A,[hhll]`, R145. -/
  | ldA_athhll (hhll : Word)
  /-- `LD B,[hhll]`, R145. -/
  | ldB_athhll (hhll : Word)
  /-- `LD L,[hhll]`, R145. -/
  | ldL_athhll (hhll : Word)
  /-- `LD H,[hhll]`, R145. -/
  | ldH_athhll (hhll : Word)
  /-- `LD A,[IX+dd]`, R149. -/
  | ldA_atIXdd (dd : Byte)
  /-- `LD B,[IX+dd]`, R149. -/
  | ldB_atIXdd (dd : Byte)
  /-- `LD L,[IX+dd]`, R149. -/
  | ldL_atIXdd (dd : Byte)
  /-- `LD H,[IX+dd]`, R149. -/
  | ldH_atIXdd (dd : Byte)
  /-- `LD A,[IY+dd]`, R150. -/
  | ldA_atIYdd (dd : Byte)
  /-- `LD B,[IY+dd]`, R150. -/
  | ldB_atIYdd (dd : Byte)
  /-- `LD L,[IY+dd]`, R150. -/
  | ldL_atIYdd (dd : Byte)
  /-- `LD H,[IY+dd]`, R150. -/
  | ldH_atIYdd (dd : Byte)
  /-- `LD [BR:ll],A`, R153. -/
  | ld_atBRll_A (ll : Byte)
  /-- `LD [BR:ll],B`, R153. -/
  | ld_atBRll_B (ll : Byte)
  /-- `LD [BR:ll],L`, R153. -/
  | ld_atBRll_L (ll : Byte)
  /-- `LD [BR:ll],H`, R153. -/
  | ld_atBRll_H (ll : Byte)
  /-- `LD [hhll],A`, R154. -/
  | ld_athhll_A (hhll : Word)
  /-- `LD [hhll],B`, R154. -/
  | ld_athhll_B (hhll : Word)
  /-- `LD [hhll],L`, R154. -/
  | ld_athhll_L (hhll : Word)
  /-- `LD [hhll],H`, R154. -/
  | ld_athhll_H (hhll : Word)
  /-- `LD [IX+dd],A`, R157. -/
  | ld_atIXdd_A (dd : Byte)
  /-- `LD [IX+dd],B`, R157. -/
  | ld_atIXdd_B (dd : Byte)
  /-- `LD [IX+dd],L`, R157. -/
  | ld_atIXdd_L (dd : Byte)
  /-- `LD [IX+dd],H`, R157. -/
  | ld_atIXdd_H (dd : Byte)
  /-- `LD [IY+dd],A`, R158. -/
  | ld_atIYdd_A (dd : Byte)
  /-- `LD [IY+dd],B`, R158. -/
  | ld_atIYdd_B (dd : Byte)
  /-- `LD [IY+dd],L`, R158. -/
  | ld_atIYdd_L (dd : Byte)
  /-- `LD [IY+dd],H`, R158. -/
  | ld_atIYdd_H (dd : Byte)
  /-- `LD [BR:ll],#nn`, R161. -/
  | ld_atBRll_imm (ll : Byte) (nn : Byte)
  /-- `LD [HL],#nn`, R162. -/
  | ld_atHL_imm (nn : Byte)
  /-- `LD [IX],#nn`, R163. -/
  | ld_atIX_imm (nn : Byte)
  /-- `LD [IY],#nn`, R163. -/
  | ld_atIY_imm (nn : Byte)
  /-- `LD [BR:ll],[HL]`, R164. -/
  | ld_atBRll_atHL (ll : Byte)
  /-- `LD [BR:ll],[IX]`, R165. -/
  | ld_atBRll_atIX (ll : Byte)
  /-- `LD [BR:ll],[IY]`, R166. -/
  | ld_atBRll_atIY (ll : Byte)
  /-- `LD [HL],[BR:ll]`, R167. -/
  | ld_atHL_atBRll (ll : Byte)
  /-- `LD [HL],[IX+dd]`, R171. -/
  | ld_atHL_atIXdd (dd : Byte)
  /-- `LD [HL],[IY+dd]`, R172. -/
  | ld_atHL_atIYdd (dd : Byte)
  /-- `LD [IX],[BR:ll]`, R175. -/
  | ld_atIX_atBRll (ll : Byte)
  /-- `LD [IX],[IX+dd]`, R179. -/
  | ld_atIX_atIXdd (dd : Byte)
  /-- `LD [IX],[IY+dd]`, R180. -/
  | ld_atIX_atIYdd (dd : Byte)
  /-- `LD [IY],[BR:ll]`, R175. -/
  | ld_atIY_atBRll (ll : Byte)
  /-- `LD [IY],[IX+dd]`, R179. -/
  | ld_atIY_atIXdd (dd : Byte)
  /-- `LD [IY],[IY+dd]`, R180. -/
  | ld_atIY_atIYdd (dd : Byte)
  /-- `LD BA,#mmnn`, R218. -/
  | ldBA_imm (mmnn : Word)
  /-- `LD HL,#mmnn`, R218. -/
  | ldHL_imm (mmnn : Word)
  /-- `LD IX,#mmnn`, R218. -/
  | ldIX_imm (mmnn : Word)
  /-- `LD IY,#mmnn`, R218. -/
  | ldIY_imm (mmnn : Word)
  /-- `LD SP,#mmnn`, R219. -/
  | ldSP_imm (mmnn : Word)
  /-- `LD BA,[hhll]`, R220. -/
  | ldBA_athhll (hhll : Word)
  /-- `LD HL,[hhll]`, R220. -/
  | ldHL_athhll (hhll : Word)
  /-- `LD IX,[hhll]`, R220. -/
  | ldIX_athhll (hhll : Word)
  /-- `LD IY,[hhll]`, R220. -/
  | ldIY_athhll (hhll : Word)
  /-- `LD SP,[hhll]`, R221. -/
  | ldSP_athhll (hhll : Word)
  /-- `LD BA,[SP+dd]`, R225. -/
  | ldBA_atSPdd (dd : Byte)
  /-- `LD HL,[SP+dd]`, R225. -/
  | ldHL_atSPdd (dd : Byte)
  /-- `LD IX,[SP+dd]`, R225. -/
  | ldIX_atSPdd (dd : Byte)
  /-- `LD IY,[SP+dd]`, R225. -/
  | ldIY_atSPdd (dd : Byte)
  /-- `LD [hhll],BA`, R226. -/
  | ld_athhll_BA (hhll : Word)
  /-- `LD [hhll],HL`, R226. -/
  | ld_athhll_HL (hhll : Word)
  /-- `LD [hhll],IX`, R226. -/
  | ld_athhll_IX (hhll : Word)
  /-- `LD [hhll],IY`, R226. -/
  | ld_athhll_IY (hhll : Word)
  /-- `LD [hhll],SP`, R227. -/
  | ld_athhll_SP (hhll : Word)
  /-- `LD [SP+dd],BA`, R231. -/
  | ld_atSPdd_BA (dd : Byte)
  /-- `LD [SP+dd],HL`, R231. -/
  | ld_atSPdd_HL (dd : Byte)
  /-- `LD [SP+dd],IX`, R231. -/
  | ld_atSPdd_IX (dd : Byte)
  /-- `LD [SP+dd],IY`, R231. -/
  | ld_atSPdd_IY (dd : Byte)
  /-- `ADD A,#nn`, R251. -/
  | addA_imm (nn : Byte)
  /-- `ADD A,[BR:ll]`, R252. -/
  | addA_atBRll (ll : Byte)
  /-- `ADD A,[hhll]`, R253. -/
  | addA_athhll (hhll : Word)
  /-- `ADD A,[IX+dd]`, R256. -/
  | addA_atIXdd (dd : Byte)
  /-- `ADD A,[IY+dd]`, R256. -/
  | addA_atIYdd (dd : Byte)
  /-- `ADD [HL],#nn`, R259. -/
  | add_atHL_imm (nn : Byte)
  /-- `ADC A,#nn`, R262. -/
  | adcA_imm (nn : Byte)
  /-- `ADC A,[BR:ll]`, R263. -/
  | adcA_atBRll (ll : Byte)
  /-- `ADC A,[hhll]`, R264. -/
  | adcA_athhll (hhll : Word)
  /-- `ADC A,[IX+dd]`, R267. -/
  | adcA_atIXdd (dd : Byte)
  /-- `ADC A,[IY+dd]`, R267. -/
  | adcA_atIYdd (dd : Byte)
  /-- `ADC [HL],#nn`, R270. -/
  | adc_atHL_imm (nn : Byte)
  /-- `SUB A,#nn`, R273. -/
  | subA_imm (nn : Byte)
  /-- `SUB A,[BR:ll]`, R274. -/
  | subA_atBRll (ll : Byte)
  /-- `SUB A,[hhll]`, R275. -/
  | subA_athhll (hhll : Word)
  /-- `SUB A,[IX+dd]`, R278. -/
  | subA_atIXdd (dd : Byte)
  /-- `SUB A,[IY+dd]`, R278. -/
  | subA_atIYdd (dd : Byte)
  /-- `SUB [HL],#nn`, R281. -/
  | sub_atHL_imm (nn : Byte)
  /-- `SBC A,#nn`, R284. -/
  | sbcA_imm (nn : Byte)
  /-- `SBC A,[BR:ll]`, R285. -/
  | sbcA_atBRll (ll : Byte)
  /-- `SBC A,[hhll]`, R286. -/
  | sbcA_athhll (hhll : Word)
  /-- `SBC A,[IX+dd]`, R289. -/
  | sbcA_atIXdd (dd : Byte)
  /-- `SBC A,[IY+dd]`, R289. -/
  | sbcA_atIYdd (dd : Byte)
  /-- `SBC [HL],#nn`, R292. -/
  | sbc_atHL_imm (nn : Byte)
  /-- `CP A,#nn`, R295. -/
  | cpA_imm (nn : Byte)
  /-- `CP A,[BR:ll]`, R296. -/
  | cpA_atBRll (ll : Byte)
  /-- `CP A,[hhll]`, R297. -/
  | cpA_athhll (hhll : Word)
  /-- `CP A,[IX+dd]`, R300. -/
  | cpA_atIXdd (dd : Byte)
  /-- `CP A,[IY+dd]`, R300. -/
  | cpA_atIYdd (dd : Byte)
  /-- `CP B,#nn`, R302. -/
  | cpB_imm (nn : Byte)
  /-- `CP L,#nn`, R303. -/
  | cpL_imm (nn : Byte)
  /-- `CP H,#nn`, R304. -/
  | cpH_imm (nn : Byte)
  /-- `CP BR,#hh`, R305. -/
  | cpBR_imm (hh : Byte)
  /-- `CP [BR:ll],#nn`, R306. -/
  | cp_atBRll_imm (ll : Byte) (nn : Byte)
  /-- `CP [HL],#nn`, R308. -/
  | cp_atHL_imm (nn : Byte)
  /-- `INC [BR:ll]`, R312. -/
  | inc_atBRll (ll : Byte)
  /-- `DEC [BR:ll]`, R316. -/
  | dec_atBRll (ll : Byte)
  /-- `NEG [BR:ll]`, R319. -/
  | neg_atBRll (ll : Byte)
  /-- `AND A,#nn`, R341. -/
  | andA_imm (nn : Byte)
  /-- `AND A,[BR:ll]`, R342. -/
  | andA_atBRll (ll : Byte)
  /-- `AND A,[hhll]`, R343. -/
  | andA_athhll (hhll : Word)
  /-- `AND A,[IX+dd]`, R346. -/
  | andA_atIXdd (dd : Byte)
  /-- `AND A,[IY+dd]`, R346. -/
  | andA_atIYdd (dd : Byte)
  /-- `AND B,#nn`, R348. -/
  | andB_imm (nn : Byte)
  /-- `AND L,#nn`, R349. -/
  | andL_imm (nn : Byte)
  /-- `AND H,#nn`, R350. -/
  | andH_imm (nn : Byte)
  /-- `AND SC,#nn`, R351. -/
  | andSC_imm (nn : Byte)
  /-- `AND [BR:ll],#nn`, R352. -/
  | and_atBRll_imm (ll : Byte) (nn : Byte)
  /-- `AND [HL],#nn`, R354. -/
  | and_atHL_imm (nn : Byte)
  /-- `OR A,#nn`, R357. -/
  | orA_imm (nn : Byte)
  /-- `OR A,[BR:ll]`, R358. -/
  | orA_atBRll (ll : Byte)
  /-- `OR A,[hhll]`, R359. -/
  | orA_athhll (hhll : Word)
  /-- `OR A,[IX+dd]`, R362. -/
  | orA_atIXdd (dd : Byte)
  /-- `OR A,[IY+dd]`, R362. -/
  | orA_atIYdd (dd : Byte)
  /-- `OR B,#nn`, R364. -/
  | orB_imm (nn : Byte)
  /-- `OR L,#nn`, R365. -/
  | orL_imm (nn : Byte)
  /-- `OR H,#nn`, R366. -/
  | orH_imm (nn : Byte)
  /-- `OR SC,#nn`, R367. -/
  | orSC_imm (nn : Byte)
  /-- `OR [BR:ll],#nn`, R368. -/
  | or_atBRll_imm (ll : Byte) (nn : Byte)
  /-- `OR [HL],#nn`, R370. -/
  | or_atHL_imm (nn : Byte)
  /-- `XOR A,#nn`, R373. -/
  | xorA_imm (nn : Byte)
  /-- `XOR A,[BR:ll]`, R374. -/
  | xorA_atBRll (ll : Byte)
  /-- `XOR A,[hhll]`, R375. -/
  | xorA_athhll (hhll : Word)
  /-- `XOR A,[IX+dd]`, R378. -/
  | xorA_atIXdd (dd : Byte)
  /-- `XOR A,[IY+dd]`, R378. -/
  | xorA_atIYdd (dd : Byte)
  /-- `XOR B,#nn`, R380. -/
  | xorB_imm (nn : Byte)
  /-- `XOR L,#nn`, R381. -/
  | xorL_imm (nn : Byte)
  /-- `XOR H,#nn`, R382. -/
  | xorH_imm (nn : Byte)
  /-- `XOR SC,#nn`, R383. -/
  | xorSC_imm (nn : Byte)
  /-- `XOR [BR:ll],#nn`, R384. -/
  | xor_atBRll_imm (ll : Byte) (nn : Byte)
  /-- `XOR [HL],#nn`, R386. -/
  | xor_atHL_imm (nn : Byte)
  /-- `BIT A,#nn`, R389. -/
  | bitA_imm (nn : Byte)
  /-- `BIT B,#nn`, R390. -/
  | bitB_imm (nn : Byte)
  /-- `BIT [BR:ll],#nn`, R391. -/
  | bit_atBRll_imm (ll : Byte) (nn : Byte)
  /-- `BIT [HL],#nn`, R392. -/
  | bit_atHL_imm (nn : Byte)
  /-- `CPL [BR:ll]`, R394. -/
  | cpl_atBRll (ll : Byte)
  /-- `ADD BA,#mmnn`, R427. -/
  | addBA_imm (mmnn : Word)
  /-- `ADD HL,#mmnn`, R428. -/
  | addHL_imm (mmnn : Word)
  /-- `ADD IX,#mmnn`, R429. -/
  | addIX_imm (mmnn : Word)
  /-- `ADD IY,#mmnn`, R430. -/
  | addIY_imm (mmnn : Word)
  /-- `SUB BA,#mmnn`, R431. -/
  | subBA_imm (mmnn : Word)
  /-- `SUB HL,#mmnn`, R432. -/
  | subHL_imm (mmnn : Word)
  /-- `SUB IX,#mmnn`, R433. -/
  | subIX_imm (mmnn : Word)
  /-- `SUB IY,#mmnn`, R434. -/
  | subIY_imm (mmnn : Word)
  /-- `CP BA,#mmnn`, R435. -/
  | cpBA_imm (mmnn : Word)
  /-- `CP HL,#mmnn`, R436. -/
  | cpHL_imm (mmnn : Word)
  /-- `CP IX,#mmnn`, R437. -/
  | cpIX_imm (mmnn : Word)
  /-- `CP IY,#mmnn`, R438. -/
  | cpIY_imm (mmnn : Word)
  /-- `ADC BA,#mmnn`, R439. -/
  | adcBA_imm (mmnn : Word)
  /-- `ADC HL,#mmnn`, R440. -/
  | adcHL_imm (mmnn : Word)
  /-- `SBC BA,#mmnn`, R441. -/
  | sbcBA_imm (mmnn : Word)
  /-- `SBC HL,#mmnn`, R442. -/
  | sbcHL_imm (mmnn : Word)
  /-- `ADD SP,#mmnn`, R443. -/
  | addSP_imm (mmnn : Word)
  /-- `SUB SP,#mmnn`, R444. -/
  | subSP_imm (mmnn : Word)
  /-- `CP SP,#mmnn`, R445. -/
  | cpSP_imm (mmnn : Word)
  /-- `RL [BR:ll]`, R471. -/
  | rl_atBRll (ll : Byte)
  /-- `RLC [BR:ll]`, R474. -/
  | rlc_atBRll (ll : Byte)
  /-- `RR [BR:ll]`, R477. -/
  | rr_atBRll (ll : Byte)
  /-- `RRC [BR:ll]`, R480. -/
  | rrc_atBRll (ll : Byte)
  /-- `SLA [BR:ll]`, R483. -/
  | sla_atBRll (ll : Byte)
  /-- `SLL [BR:ll]`, R486. -/
  | sll_atBRll (ll : Byte)
  /-- `SRA [BR:ll]`, R489. -/
  | sra_atBRll (ll : Byte)
  /-- `SRL [BR:ll]`, R492. -/
  | srl_atBRll (ll : Byte)
  /-- `JRS rr`, R544. -/
  | jrs (rr : Byte)
  /-- `JRS C,rr`, R545. -/
  | jrsC (rr : Byte)
  /-- `JRS NC,rr`, R545. -/
  | jrsNC (rr : Byte)
  /-- `JRS Z,rr`, R545. -/
  | jrsZ (rr : Byte)
  /-- `JRS NZ,rr`, R545. -/
  | jrsNZ (rr : Byte)
  /-- `JRS LT,rr`, R546. -/
  | jrsLT (rr : Byte)
  /-- `JRS LE,rr`, R546. -/
  | jrsLE (rr : Byte)
  /-- `JRS GT,rr`, R546. -/
  | jrsGT (rr : Byte)
  /-- `JRS GE,rr`, R546. -/
  | jrsGE (rr : Byte)
  /-- `JRS V,rr`, R546. -/
  | jrsV (rr : Byte)
  /-- `JRS NV,rr`, R546. -/
  | jrsNV (rr : Byte)
  /-- `JRS P,rr`, R546. -/
  | jrsP (rr : Byte)
  /-- `JRS M,rr`, R546. -/
  | jrsM (rr : Byte)
  /-- `JRS F0,rr`, R546. -/
  | jrsF0 (rr : Byte)
  /-- `JRS F1,rr`, R546. -/
  | jrsF1 (rr : Byte)
  /-- `JRS F2,rr`, R546. -/
  | jrsF2 (rr : Byte)
  /-- `JRS F3,rr`, R546. -/
  | jrsF3 (rr : Byte)
  /-- `JRS NF0,rr`, R546. -/
  | jrsNF0 (rr : Byte)
  /-- `JRS NF1,rr`, R546. -/
  | jrsNF1 (rr : Byte)
  /-- `JRS NF2,rr`, R546. -/
  | jrsNF2 (rr : Byte)
  /-- `JRS NF3,rr`, R546. -/
  | jrsNF3 (rr : Byte)
  /-- `JRL qqrr`, R547. -/
  | jrl (qqrr : Word)
  /-- `JRL C,qqrr`, R548. -/
  | jrlC (qqrr : Word)
  /-- `JRL NC,qqrr`, R548. -/
  | jrlNC (qqrr : Word)
  /-- `JRL Z,qqrr`, R548. -/
  | jrlZ (qqrr : Word)
  /-- `JRL NZ,qqrr`, R548. -/
  | jrlNZ (qqrr : Word)
  /-- `DJR NZ,rr`, R549. -/
  | djrNZ (rr : Byte)
  /-- `JP [kk]`, R551. -/
  | jp_atkk (kk : Byte)
  /-- `CARS rr`, R552. -/
  | cars (rr : Byte)
  /-- `CARS C,rr`, R553. -/
  | carsC (rr : Byte)
  /-- `CARS NC,rr`, R553. -/
  | carsNC (rr : Byte)
  /-- `CARS Z,rr`, R553. -/
  | carsZ (rr : Byte)
  /-- `CARS NZ,rr`, R553. -/
  | carsNZ (rr : Byte)
  /-- `CARS LT,rr`, R554. -/
  | carsLT (rr : Byte)
  /-- `CARS LE,rr`, R554. -/
  | carsLE (rr : Byte)
  /-- `CARS GT,rr`, R554. -/
  | carsGT (rr : Byte)
  /-- `CARS GE,rr`, R554. -/
  | carsGE (rr : Byte)
  /-- `CARS V,rr`, R554. -/
  | carsV (rr : Byte)
  /-- `CARS NV,rr`, R554. -/
  | carsNV (rr : Byte)
  /-- `CARS P,rr`, R554. -/
  | carsP (rr : Byte)
  /-- `CARS M,rr`, R554. -/
  | carsM (rr : Byte)
  /-- `CARS F0,rr`, R554. -/
  | carsF0 (rr : Byte)
  /-- `CARS F1,rr`, R554. -/
  | carsF1 (rr : Byte)
  /-- `CARS F2,rr`, R554. -/
  | carsF2 (rr : Byte)
  /-- `CARS F3,rr`, R554. -/
  | carsF3 (rr : Byte)
  /-- `CARS NF0,rr`, R554. -/
  | carsNF0 (rr : Byte)
  /-- `CARS NF1,rr`, R554. -/
  | carsNF1 (rr : Byte)
  /-- `CARS NF2,rr`, R554. -/
  | carsNF2 (rr : Byte)
  /-- `CARS NF3,rr`, R554. -/
  | carsNF3 (rr : Byte)
  /-- `CARL qqrr`, R555. -/
  | carl (qqrr : Word)
  /-- `CARL C,qqrr`, R556. -/
  | carlC (qqrr : Word)
  /-- `CARL NC,qqrr`, R556. -/
  | carlNC (qqrr : Word)
  /-- `CARL Z,qqrr`, R556. -/
  | carlZ (qqrr : Word)
  /-- `CARL NZ,qqrr`, R556. -/
  | carlNZ (qqrr : Word)
  /-- `CALL [hhll]`, R557. -/
  | call_athhll (hhll : Word)
  /-- `INT [kk]`, R561. -/
  | int_atkk (kk : Byte)
  /-- `LD A,A`, R130. -/
  | ldA_A
  /-- `LD A,B`, R130. -/
  | ldA_B
  /-- `LD A,L`, R130. -/
  | ldA_L
  /-- `LD A,H`, R130. -/
  | ldA_H
  /-- `LD B,A`, R130. -/
  | ldB_A
  /-- `LD B,B`, R130. -/
  | ldB_B
  /-- `LD B,L`, R130. -/
  | ldB_L
  /-- `LD B,H`, R130. -/
  | ldB_H
  /-- `LD L,A`, R130. -/
  | ldL_A
  /-- `LD L,B`, R130. -/
  | ldL_B
  /-- `LD L,L`, R130. -/
  | ldL_L
  /-- `LD L,H`, R130. -/
  | ldL_H
  /-- `LD H,A`, R130. -/
  | ldH_A
  /-- `LD H,B`, R130. -/
  | ldH_B
  /-- `LD H,L`, R130. -/
  | ldH_L
  /-- `LD H,H`, R130. -/
  | ldH_H
  /-- `LD A,BR`, R131. -/
  | ldA_BR
  /-- `LD A,SC`, R132. -/
  | ldA_SC
  /-- `LD BR,A`, R133. -/
  | ldBR_A
  /-- `LD SC,A`, R134. -/
  | ldSC_A
  /-- `LD A,NB`, R139. -/
  | ldA_NB
  /-- `LD A,EP`, R139. -/
  | ldA_EP
  /-- `LD A,XP`, R139. -/
  | ldA_XP
  /-- `LD A,YP`, R139. -/
  | ldA_YP
  /-- `LD NB,A`, R140. -/
  | ldNB_A
  /-- `LD EP,A`, R140. -/
  | ldEP_A
  /-- `LD XP,A`, R140. -/
  | ldXP_A
  /-- `LD YP,A`, R140. -/
  | ldYP_A
  /-- `LD A,[HL]`, R146. -/
  | ldA_atHL
  /-- `LD B,[HL]`, R146. -/
  | ldB_atHL
  /-- `LD L,[HL]`, R146. -/
  | ldL_atHL
  /-- `LD H,[HL]`, R146. -/
  | ldH_atHL
  /-- `LD A,[IX]`, R147. -/
  | ldA_atIX
  /-- `LD B,[IX]`, R147. -/
  | ldB_atIX
  /-- `LD L,[IX]`, R147. -/
  | ldL_atIX
  /-- `LD H,[IX]`, R147. -/
  | ldH_atIX
  /-- `LD A,[IY]`, R148. -/
  | ldA_atIY
  /-- `LD B,[IY]`, R148. -/
  | ldB_atIY
  /-- `LD L,[IY]`, R148. -/
  | ldL_atIY
  /-- `LD H,[IY]`, R148. -/
  | ldH_atIY
  /-- `LD A,[IX+L]`, R151. -/
  | ldA_atIXL
  /-- `LD B,[IX+L]`, R151. -/
  | ldB_atIXL
  /-- `LD L,[IX+L]`, R151. -/
  | ldL_atIXL
  /-- `LD H,[IX+L]`, R151. -/
  | ldH_atIXL
  /-- `LD A,[IY+L]`, R152. -/
  | ldA_atIYL
  /-- `LD B,[IY+L]`, R152. -/
  | ldB_atIYL
  /-- `LD L,[IY+L]`, R152. -/
  | ldL_atIYL
  /-- `LD H,[IY+L]`, R152. -/
  | ldH_atIYL
  /-- `LD [HL],A`, R155. -/
  | ld_atHL_A
  /-- `LD [HL],B`, R155. -/
  | ld_atHL_B
  /-- `LD [HL],L`, R155. -/
  | ld_atHL_L
  /-- `LD [HL],H`, R155. -/
  | ld_atHL_H
  /-- `LD [IX],A`, R156. -/
  | ld_atIX_A
  /-- `LD [IX],B`, R156. -/
  | ld_atIX_B
  /-- `LD [IX],L`, R156. -/
  | ld_atIX_L
  /-- `LD [IX],H`, R156. -/
  | ld_atIX_H
  /-- `LD [IY],A`, R156. -/
  | ld_atIY_A
  /-- `LD [IY],B`, R156. -/
  | ld_atIY_B
  /-- `LD [IY],L`, R156. -/
  | ld_atIY_L
  /-- `LD [IY],H`, R156. -/
  | ld_atIY_H
  /-- `LD [IX+L],A`, R159. -/
  | ld_atIXL_A
  /-- `LD [IX+L],B`, R159. -/
  | ld_atIXL_B
  /-- `LD [IX+L],L`, R159. -/
  | ld_atIXL_L
  /-- `LD [IX+L],H`, R159. -/
  | ld_atIXL_H
  /-- `LD [IY+L],A`, R160. -/
  | ld_atIYL_A
  /-- `LD [IY+L],B`, R160. -/
  | ld_atIYL_B
  /-- `LD [IY+L],L`, R160. -/
  | ld_atIYL_L
  /-- `LD [IY+L],H`, R160. -/
  | ld_atIYL_H
  /-- `LD [HL],[HL]`, R168. -/
  | ld_atHL_atHL
  /-- `LD [HL],[IX]`, R169. -/
  | ld_atHL_atIX
  /-- `LD [HL],[IY]`, R170. -/
  | ld_atHL_atIY
  /-- `LD [HL],[IX+L]`, R173. -/
  | ld_atHL_atIXL
  /-- `LD [HL],[IY+L]`, R174. -/
  | ld_atHL_atIYL
  /-- `LD [IX],[HL]`, R176. -/
  | ld_atIX_atHL
  /-- `LD [IX],[IX]`, R177. -/
  | ld_atIX_atIX
  /-- `LD [IX],[IY]`, R178. -/
  | ld_atIX_atIY
  /-- `LD [IX],[IX+L]`, R181. -/
  | ld_atIX_atIXL
  /-- `LD [IX],[IY+L]`, R182. -/
  | ld_atIX_atIYL
  /-- `LD [IY],[HL]`, R176. -/
  | ld_atIY_atHL
  /-- `LD [IY],[IX]`, R177. -/
  | ld_atIY_atIX
  /-- `LD [IY],[IY]`, R178. -/
  | ld_atIY_atIY
  /-- `LD [IY],[IX+L]`, R181. -/
  | ld_atIY_atIXL
  /-- `LD [IY],[IY+L]`, R182. -/
  | ld_atIY_atIYL
  /-- `EX A,B`, R183. -/
  | exA_B
  /-- `EX A,[HL]`, R184. -/
  | exA_atHL
  /-- `SWAP A`, R185. -/
  | swapA
  /-- `SWAP [HL]`, R186. -/
  | swap_atHL
  /-- `LD BA,BA`, R210. -/
  | ldBA_BA
  /-- `LD BA,HL`, R210. -/
  | ldBA_HL
  /-- `LD BA,IX`, R210. -/
  | ldBA_IX
  /-- `LD BA,IY`, R210. -/
  | ldBA_IY
  /-- `LD HL,BA`, R210. -/
  | ldHL_BA
  /-- `LD HL,HL`, R210. -/
  | ldHL_HL
  /-- `LD HL,IX`, R210. -/
  | ldHL_IX
  /-- `LD HL,IY`, R210. -/
  | ldHL_IY
  /-- `LD IX,BA`, R210. -/
  | ldIX_BA
  /-- `LD IX,HL`, R210. -/
  | ldIX_HL
  /-- `LD IX,IX`, R210. -/
  | ldIX_IX
  /-- `LD IX,IY`, R210. -/
  | ldIX_IY
  /-- `LD IY,BA`, R210. -/
  | ldIY_BA
  /-- `LD IY,HL`, R210. -/
  | ldIY_HL
  /-- `LD IY,IX`, R210. -/
  | ldIY_IX
  /-- `LD IY,IY`, R210. -/
  | ldIY_IY
  /-- `LD BA,PC`, R211. -/
  | ldBA_PC
  /-- `LD BA,SP`, R212. -/
  | ldBA_SP
  /-- `LD HL,PC`, R213. -/
  | ldHL_PC
  /-- `LD HL,SP`, R214. -/
  | ldHL_SP
  /-- `LD IX,SP`, R215. -/
  | ldIX_SP
  /-- `LD IY,SP`, R216. -/
  | ldIY_SP
  /-- `LD SP,BA`, R217. -/
  | ldSP_BA
  /-- `LD SP,HL`, R217. -/
  | ldSP_HL
  /-- `LD SP,IX`, R217. -/
  | ldSP_IX
  /-- `LD SP,IY`, R217. -/
  | ldSP_IY
  /-- `LD BA,[HL]`, R222. -/
  | ldBA_atHL
  /-- `LD HL,[HL]`, R222. -/
  | ldHL_atHL
  /-- `LD IX,[HL]`, R222. -/
  | ldIX_atHL
  /-- `LD IY,[HL]`, R222. -/
  | ldIY_atHL
  /-- `LD BA,[IX]`, R223. -/
  | ldBA_atIX
  /-- `LD HL,[IX]`, R223. -/
  | ldHL_atIX
  /-- `LD IX,[IX]`, R223. -/
  | ldIX_atIX
  /-- `LD IY,[IX]`, R223. -/
  | ldIY_atIX
  /-- `LD BA,[IY]`, R224. -/
  | ldBA_atIY
  /-- `LD HL,[IY]`, R224. -/
  | ldHL_atIY
  /-- `LD IX,[IY]`, R224. -/
  | ldIX_atIY
  /-- `LD IY,[IY]`, R224. -/
  | ldIY_atIY
  /-- `LD [HL],BA`, R228. -/
  | ld_atHL_BA
  /-- `LD [HL],HL`, R228. -/
  | ld_atHL_HL
  /-- `LD [HL],IX`, R228. -/
  | ld_atHL_IX
  /-- `LD [HL],IY`, R228. -/
  | ld_atHL_IY
  /-- `LD [IX],BA`, R229. -/
  | ld_atIX_BA
  /-- `LD [IX],HL`, R229. -/
  | ld_atIX_HL
  /-- `LD [IX],IX`, R229. -/
  | ld_atIX_IX
  /-- `LD [IX],IY`, R229. -/
  | ld_atIX_IY
  /-- `LD [IY],BA`, R230. -/
  | ld_atIY_BA
  /-- `LD [IY],HL`, R230. -/
  | ld_atIY_HL
  /-- `LD [IY],IX`, R230. -/
  | ld_atIY_IX
  /-- `LD [IY],IY`, R230. -/
  | ld_atIY_IY
  /-- `EX BA,HL`, R232. -/
  | exBA_HL
  /-- `EX BA,IX`, R232. -/
  | exBA_IX
  /-- `EX BA,IY`, R232. -/
  | exBA_IY
  /-- `EX BA,SP`, R232. -/
  | exBA_SP
  /-- `ADD A,A`, R250. -/
  | addA_A
  /-- `ADD A,B`, R250. -/
  | addA_B
  /-- `ADD A,[HL]`, R254. -/
  | addA_atHL
  /-- `ADD A,[IX]`, R255. -/
  | addA_atIX
  /-- `ADD A,[IY]`, R255. -/
  | addA_atIY
  /-- `ADD A,[IX+L]`, R257. -/
  | addA_atIXL
  /-- `ADD A,[IY+L]`, R257. -/
  | addA_atIYL
  /-- `ADD [HL],A`, R258. -/
  | add_atHL_A
  /-- `ADD [HL],[IX]`, R260. -/
  | add_atHL_atIX
  /-- `ADD [HL],[IY]`, R260. -/
  | add_atHL_atIY
  /-- `ADC A,A`, R261. -/
  | adcA_A
  /-- `ADC A,B`, R261. -/
  | adcA_B
  /-- `ADC A,[HL]`, R265. -/
  | adcA_atHL
  /-- `ADC A,[IX]`, R266. -/
  | adcA_atIX
  /-- `ADC A,[IY]`, R266. -/
  | adcA_atIY
  /-- `ADC A,[IX+L]`, R268. -/
  | adcA_atIXL
  /-- `ADC A,[IY+L]`, R268. -/
  | adcA_atIYL
  /-- `ADC [HL],A`, R269. -/
  | adc_atHL_A
  /-- `ADC [HL],[IX]`, R271. -/
  | adc_atHL_atIX
  /-- `ADC [HL],[IY]`, R271. -/
  | adc_atHL_atIY
  /-- `SUB A,A`, R272. -/
  | subA_A
  /-- `SUB A,B`, R272. -/
  | subA_B
  /-- `SUB A,[HL]`, R276. -/
  | subA_atHL
  /-- `SUB A,[IX]`, R277. -/
  | subA_atIX
  /-- `SUB A,[IY]`, R277. -/
  | subA_atIY
  /-- `SUB A,[IX+L]`, R279. -/
  | subA_atIXL
  /-- `SUB A,[IY+L]`, R279. -/
  | subA_atIYL
  /-- `SUB [HL],A`, R280. -/
  | sub_atHL_A
  /-- `SUB [HL],[IX]`, R282. -/
  | sub_atHL_atIX
  /-- `SUB [HL],[IY]`, R282. -/
  | sub_atHL_atIY
  /-- `SBC A,A`, R283. -/
  | sbcA_A
  /-- `SBC A,B`, R283. -/
  | sbcA_B
  /-- `SBC A,[HL]`, R287. -/
  | sbcA_atHL
  /-- `SBC A,[IX]`, R288. -/
  | sbcA_atIX
  /-- `SBC A,[IY]`, R288. -/
  | sbcA_atIY
  /-- `SBC A,[IX+L]`, R290. -/
  | sbcA_atIXL
  /-- `SBC A,[IY+L]`, R290. -/
  | sbcA_atIYL
  /-- `SBC [HL],A`, R291. -/
  | sbc_atHL_A
  /-- `SBC [HL],[IX]`, R293. -/
  | sbc_atHL_atIX
  /-- `SBC [HL],[IY]`, R293. -/
  | sbc_atHL_atIY
  /-- `CP A,A`, R294. -/
  | cpA_A
  /-- `CP A,B`, R294. -/
  | cpA_B
  /-- `CP A,[HL]`, R298. -/
  | cpA_atHL
  /-- `CP A,[IX]`, R299. -/
  | cpA_atIX
  /-- `CP A,[IY]`, R299. -/
  | cpA_atIY
  /-- `CP A,[IX+L]`, R301. -/
  | cpA_atIXL
  /-- `CP A,[IY+L]`, R301. -/
  | cpA_atIYL
  /-- `CP [HL],A`, R307. -/
  | cp_atHL_A
  /-- `CP [HL],[IX]`, R309. -/
  | cp_atHL_atIX
  /-- `CP [HL],[IY]`, R309. -/
  | cp_atHL_atIY
  /-- `INC A`, R310. -/
  | incA
  /-- `INC B`, R310. -/
  | incB
  /-- `INC L`, R310. -/
  | incL
  /-- `INC H`, R310. -/
  | incH
  /-- `INC BR`, R311. -/
  | incBR
  /-- `INC [HL]`, R313. -/
  | inc_atHL
  /-- `DEC A`, R314. -/
  | decA
  /-- `DEC B`, R314. -/
  | decB
  /-- `DEC L`, R314. -/
  | decL
  /-- `DEC H`, R314. -/
  | decH
  /-- `DEC BR`, R315. -/
  | decBR
  /-- `DEC [HL]`, R317. -/
  | dec_atHL
  /-- `NEG A`, R318. -/
  | negA
  /-- `NEG B`, R318. -/
  | negB
  /-- `NEG [HL]`, R320. -/
  | neg_atHL
  /-- `MLT`, R321. -/
  | mlt
  /-- `DIV`, R322. -/
  | div
  /-- `AND A,A`, R340. -/
  | andA_A
  /-- `AND A,B`, R340. -/
  | andA_B
  /-- `AND A,[HL]`, R344. -/
  | andA_atHL
  /-- `AND A,[IX]`, R345. -/
  | andA_atIX
  /-- `AND A,[IY]`, R345. -/
  | andA_atIY
  /-- `AND A,[IX+L]`, R347. -/
  | andA_atIXL
  /-- `AND A,[IY+L]`, R347. -/
  | andA_atIYL
  /-- `AND [HL],A`, R353. -/
  | and_atHL_A
  /-- `AND [HL],[IX]`, R355. -/
  | and_atHL_atIX
  /-- `AND [HL],[IY]`, R355. -/
  | and_atHL_atIY
  /-- `OR A,A`, R356. -/
  | orA_A
  /-- `OR A,B`, R356. -/
  | orA_B
  /-- `OR A,[HL]`, R360. -/
  | orA_atHL
  /-- `OR A,[IX]`, R361. -/
  | orA_atIX
  /-- `OR A,[IY]`, R361. -/
  | orA_atIY
  /-- `OR A,[IX+L]`, R363. -/
  | orA_atIXL
  /-- `OR A,[IY+L]`, R363. -/
  | orA_atIYL
  /-- `OR [HL],A`, R369. -/
  | or_atHL_A
  /-- `OR [HL],[IX]`, R371. -/
  | or_atHL_atIX
  /-- `OR [HL],[IY]`, R371. -/
  | or_atHL_atIY
  /-- `XOR A,A`, R372. -/
  | xorA_A
  /-- `XOR A,B`, R372. -/
  | xorA_B
  /-- `XOR A,[HL]`, R376. -/
  | xorA_atHL
  /-- `XOR A,[IX]`, R377. -/
  | xorA_atIX
  /-- `XOR A,[IY]`, R377. -/
  | xorA_atIY
  /-- `XOR A,[IX+L]`, R379. -/
  | xorA_atIXL
  /-- `XOR A,[IY+L]`, R379. -/
  | xorA_atIYL
  /-- `XOR [HL],A`, R385. -/
  | xor_atHL_A
  /-- `XOR [HL],[IX]`, R387. -/
  | xor_atHL_atIX
  /-- `XOR [HL],[IY]`, R387. -/
  | xor_atHL_atIY
  /-- `BIT A,B`, R388. -/
  | bitA_B
  /-- `CPL A`, R393. -/
  | cplA
  /-- `CPL B`, R393. -/
  | cplB
  /-- `CPL [HL]`, R395. -/
  | cpl_atHL
  /-- `ADD BA,BA`, R410. -/
  | addBA_BA
  /-- `ADD BA,HL`, R410. -/
  | addBA_HL
  /-- `ADD BA,IX`, R410. -/
  | addBA_IX
  /-- `ADD BA,IY`, R410. -/
  | addBA_IY
  /-- `ADD HL,BA`, R411. -/
  | addHL_BA
  /-- `ADD HL,HL`, R411. -/
  | addHL_HL
  /-- `ADD HL,IX`, R411. -/
  | addHL_IX
  /-- `ADD HL,IY`, R411. -/
  | addHL_IY
  /-- `ADC BA,BA`, R412. -/
  | adcBA_BA
  /-- `ADC BA,HL`, R412. -/
  | adcBA_HL
  /-- `ADC BA,IX`, R412. -/
  | adcBA_IX
  /-- `ADC BA,IY`, R412. -/
  | adcBA_IY
  /-- `ADC HL,BA`, R413. -/
  | adcHL_BA
  /-- `ADC HL,HL`, R413. -/
  | adcHL_HL
  /-- `ADC HL,IX`, R413. -/
  | adcHL_IX
  /-- `ADC HL,IY`, R413. -/
  | adcHL_IY
  /-- `SUB BA,BA`, R414. -/
  | subBA_BA
  /-- `SUB BA,HL`, R414. -/
  | subBA_HL
  /-- `SUB BA,IX`, R414. -/
  | subBA_IX
  /-- `SUB BA,IY`, R414. -/
  | subBA_IY
  /-- `SUB HL,BA`, R415. -/
  | subHL_BA
  /-- `SUB HL,HL`, R415. -/
  | subHL_HL
  /-- `SUB HL,IX`, R415. -/
  | subHL_IX
  /-- `SUB HL,IY`, R415. -/
  | subHL_IY
  /-- `SBC BA,BA`, R416. -/
  | sbcBA_BA
  /-- `SBC BA,HL`, R416. -/
  | sbcBA_HL
  /-- `SBC BA,IX`, R416. -/
  | sbcBA_IX
  /-- `SBC BA,IY`, R416. -/
  | sbcBA_IY
  /-- `SBC HL,BA`, R417. -/
  | sbcHL_BA
  /-- `SBC HL,HL`, R417. -/
  | sbcHL_HL
  /-- `SBC HL,IX`, R417. -/
  | sbcHL_IX
  /-- `SBC HL,IY`, R417. -/
  | sbcHL_IY
  /-- `CP BA,BA`, R418. -/
  | cpBA_BA
  /-- `CP BA,HL`, R418. -/
  | cpBA_HL
  /-- `CP BA,IX`, R418. -/
  | cpBA_IX
  /-- `CP BA,IY`, R418. -/
  | cpBA_IY
  /-- `CP HL,BA`, R419. -/
  | cpHL_BA
  /-- `CP HL,HL`, R419. -/
  | cpHL_HL
  /-- `CP HL,IX`, R419. -/
  | cpHL_IX
  /-- `CP HL,IY`, R419. -/
  | cpHL_IY
  /-- `ADD IX,BA`, R420. -/
  | addIX_BA
  /-- `ADD IX,HL`, R420. -/
  | addIX_HL
  /-- `ADD IY,BA`, R421. -/
  | addIY_BA
  /-- `ADD IY,HL`, R421. -/
  | addIY_HL
  /-- `ADD SP,BA`, R422. -/
  | addSP_BA
  /-- `ADD SP,HL`, R422. -/
  | addSP_HL
  /-- `SUB IX,BA`, R423. -/
  | subIX_BA
  /-- `SUB IX,HL`, R423. -/
  | subIX_HL
  /-- `SUB IY,BA`, R424. -/
  | subIY_BA
  /-- `SUB IY,HL`, R424. -/
  | subIY_HL
  /-- `SUB SP,BA`, R425. -/
  | subSP_BA
  /-- `SUB SP,HL`, R425. -/
  | subSP_HL
  /-- `CP SP,BA`, R426. -/
  | cpSP_BA
  /-- `CP SP,HL`, R426. -/
  | cpSP_HL
  /-- `INC BA`, R446. -/
  | incBA
  /-- `INC HL`, R446. -/
  | incHL
  /-- `INC IX`, R446. -/
  | incIX
  /-- `INC IY`, R446. -/
  | incIY
  /-- `INC SP`, R447. -/
  | incSP
  /-- `DEC BA`, R448. -/
  | decBA
  /-- `DEC HL`, R448. -/
  | decHL
  /-- `DEC IX`, R448. -/
  | decIX
  /-- `DEC IY`, R448. -/
  | decIY
  /-- `DEC SP`, R449. -/
  | decSP
  /-- `PACK`, R460. -/
  | pack
  /-- `UPCK`, R461. -/
  | upck
  /-- `SEP`, R462. -/
  | sep
  /-- `RL A`, R470. -/
  | rlA
  /-- `RL B`, R470. -/
  | rlB
  /-- `RL [HL]`, R472. -/
  | rl_atHL
  /-- `RLC A`, R473. -/
  | rlcA
  /-- `RLC B`, R473. -/
  | rlcB
  /-- `RLC [HL]`, R475. -/
  | rlc_atHL
  /-- `RR A`, R476. -/
  | rrA
  /-- `RR B`, R476. -/
  | rrB
  /-- `RR [HL]`, R478. -/
  | rr_atHL
  /-- `RRC A`, R479. -/
  | rrcA
  /-- `RRC B`, R479. -/
  | rrcB
  /-- `RRC [HL]`, R481. -/
  | rrc_atHL
  /-- `SLA A`, R482. -/
  | slaA
  /-- `SLA B`, R482. -/
  | slaB
  /-- `SLA [HL]`, R484. -/
  | sla_atHL
  /-- `SLL A`, R485. -/
  | sllA
  /-- `SLL B`, R485. -/
  | sllB
  /-- `SLL [HL]`, R487. -/
  | sll_atHL
  /-- `SRA A`, R488. -/
  | sraA
  /-- `SRA B`, R488. -/
  | sraB
  /-- `SRA [HL]`, R490. -/
  | sra_atHL
  /-- `SRL A`, R491. -/
  | srlA
  /-- `SRL B`, R491. -/
  | srlB
  /-- `SRL [HL]`, R493. -/
  | srl_atHL
  /-- `PUSH A`, R510. -/
  | pushA
  /-- `PUSH B`, R510. -/
  | pushB
  /-- `PUSH L`, R510. -/
  | pushL
  /-- `PUSH H`, R510. -/
  | pushH
  /-- `PUSH BA`, R511. -/
  | pushBA
  /-- `PUSH HL`, R511. -/
  | pushHL
  /-- `PUSH IX`, R511. -/
  | pushIX
  /-- `PUSH IY`, R511. -/
  | pushIY
  /-- `PUSH BR`, R512. -/
  | pushBR
  /-- `PUSH EP`, R513. -/
  | pushEP
  /-- `PUSH IP`, R514. -/
  | pushIP
  /-- `PUSH SC`, R515. -/
  | pushSC
  /-- `PUSH ALL`, R516. -/
  | pushALL
  /-- `PUSH ALE`, R517. -/
  | pushALE
  /-- `POP A`, R518. -/
  | popA
  /-- `POP B`, R518. -/
  | popB
  /-- `POP L`, R518. -/
  | popL
  /-- `POP H`, R518. -/
  | popH
  /-- `POP BA`, R519. -/
  | popBA
  /-- `POP HL`, R519. -/
  | popHL
  /-- `POP IX`, R519. -/
  | popIX
  /-- `POP IY`, R519. -/
  | popIY
  /-- `POP BR`, R520. -/
  | popBR
  /-- `POP EP`, R521. -/
  | popEP
  /-- `POP IP`, R522. -/
  | popIP
  /-- `POP SC`, R523. -/
  | popSC
  /-- `POP ALL`, R524. -/
  | popALL
  /-- `POP ALE`, R525. -/
  | popALE
  /-- `JP HL`, R550. -/
  | jpHL
  /-- `RET`, R558. -/
  | ret
  /-- `RETE`, R559. -/
  | rete
  /-- `RETS`, R560. -/
  | rets
  /-- `NOP`, R580. -/
  | nop
  /-- `HALT`, R581. -/
  | halt
  /-- `SLP`, R582. -/
  | slp
deriving DecidableEq, Repr

end Sys2Proof
end

