-- ==== Sys2Proof/Decode.lean ====
section
/-! DEFINITION. Decoding and encoding: the three opcode maps of 30_encoding.md R106 to R108 as tables, the
algorithm of R105, and the encoder. Operand bytes follow the opcode bytes, low byte of a 16-bit value first
(R101, R103). -/

namespace Sys2Proof

/-- Why bytes are not an instruction. -/
inductive DecodeError where
  /-- a first opcode that R106 leaves undefined -/
  | undefinedFirst (code : Byte)
  /-- a second opcode that R107 or R108 leaves undefined -/
  | undefinedSecond (extension code : Byte)
  /-- fewer bytes than the instruction has; `step` always offers enough -/
  | truncated
deriving DecidableEq, Repr

/-- One cell of an opcode map: undefined, or an instruction with no operand byte, one, a 16-bit operand (low byte
first), or two separate bytes in the order of the encoding (30_encoding.md R103). -/
inductive Opcode where
  | undefined
  | op0 (i : Instr)
  | op1 (f : Byte → Instr)
  | op16 (f : Word → Instr)
  | op2 (f : Byte → Byte → Instr)

/-- `hi : lo` of 00_scope.md R5. -/
def word16 (hi lo : Byte) : Word := hi ++ lo

/-- Bits 7 to 0 of a 16-bit value. -/
def lowByte (w : Word) : Byte := w.extractLsb' 0 8

/-- Bits 15 to 8 of a 16-bit value. -/
def highByte (w : Word) : Byte := w.extractLsb' 8 8

/-- First-opcode codes 00H to 0FH (30_encoding.md R106). -/
def firstMap0 : List Opcode :=
  [ .op0 .addA_A, .op0 .addA_B, .op1 .addA_imm, .op0 .addA_atHL,
    .op1 .addA_atBRll, .op16 .addA_athhll, .op0 .addA_atIX, .op0 .addA_atIY,
    .op0 .adcA_A, .op0 .adcA_B, .op1 .adcA_imm, .op0 .adcA_atHL,
    .op1 .adcA_atBRll, .op16 .adcA_athhll, .op0 .adcA_atIX, .op0 .adcA_atIY ]

/-- First-opcode codes 10H to 1FH (30_encoding.md R106). -/
def firstMap1 : List Opcode :=
  [ .op0 .subA_A, .op0 .subA_B, .op1 .subA_imm, .op0 .subA_atHL,
    .op1 .subA_atBRll, .op16 .subA_athhll, .op0 .subA_atIX, .op0 .subA_atIY,
    .op0 .sbcA_A, .op0 .sbcA_B, .op1 .sbcA_imm, .op0 .sbcA_atHL,
    .op1 .sbcA_atBRll, .op16 .sbcA_athhll, .op0 .sbcA_atIX, .op0 .sbcA_atIY ]

/-- First-opcode codes 20H to 2FH (30_encoding.md R106). -/
def firstMap2 : List Opcode :=
  [ .op0 .andA_A, .op0 .andA_B, .op1 .andA_imm, .op0 .andA_atHL,
    .op1 .andA_atBRll, .op16 .andA_athhll, .op0 .andA_atIX, .op0 .andA_atIY,
    .op0 .orA_A, .op0 .orA_B, .op1 .orA_imm, .op0 .orA_atHL,
    .op1 .orA_atBRll, .op16 .orA_athhll, .op0 .orA_atIX, .op0 .orA_atIY ]

/-- First-opcode codes 30H to 3FH (30_encoding.md R106). -/
def firstMap3 : List Opcode :=
  [ .op0 .cpA_A, .op0 .cpA_B, .op1 .cpA_imm, .op0 .cpA_atHL,
    .op1 .cpA_atBRll, .op16 .cpA_athhll, .op0 .cpA_atIX, .op0 .cpA_atIY,
    .op0 .xorA_A, .op0 .xorA_B, .op1 .xorA_imm, .op0 .xorA_atHL,
    .op1 .xorA_atBRll, .op16 .xorA_athhll, .op0 .xorA_atIX, .op0 .xorA_atIY ]

/-- First-opcode codes 40H to 4FH (30_encoding.md R106). -/
def firstMap4 : List Opcode :=
  [ .op0 .ldA_A, .op0 .ldA_B, .op0 .ldA_L, .op0 .ldA_H,
    .op1 .ldA_atBRll, .op0 .ldA_atHL, .op0 .ldA_atIX, .op0 .ldA_atIY,
    .op0 .ldB_A, .op0 .ldB_B, .op0 .ldB_L, .op0 .ldB_H,
    .op1 .ldB_atBRll, .op0 .ldB_atHL, .op0 .ldB_atIX, .op0 .ldB_atIY ]

/-- First-opcode codes 50H to 5FH (30_encoding.md R106). -/
def firstMap5 : List Opcode :=
  [ .op0 .ldL_A, .op0 .ldL_B, .op0 .ldL_L, .op0 .ldL_H,
    .op1 .ldL_atBRll, .op0 .ldL_atHL, .op0 .ldL_atIX, .op0 .ldL_atIY,
    .op0 .ldH_A, .op0 .ldH_B, .op0 .ldH_L, .op0 .ldH_H,
    .op1 .ldH_atBRll, .op0 .ldH_atHL, .op0 .ldH_atIX, .op0 .ldH_atIY ]

/-- First-opcode codes 60H to 6FH (30_encoding.md R106). -/
def firstMap6 : List Opcode :=
  [ .op0 .ld_atIX_A, .op0 .ld_atIX_B, .op0 .ld_atIX_L, .op0 .ld_atIX_H,
    .op1 .ld_atIX_atBRll, .op0 .ld_atIX_atHL, .op0 .ld_atIX_atIX, .op0 .ld_atIX_atIY,
    .op0 .ld_atHL_A, .op0 .ld_atHL_B, .op0 .ld_atHL_L, .op0 .ld_atHL_H,
    .op1 .ld_atHL_atBRll, .op0 .ld_atHL_atHL, .op0 .ld_atHL_atIX, .op0 .ld_atHL_atIY ]

/-- First-opcode codes 70H to 7FH (30_encoding.md R106). -/
def firstMap7 : List Opcode :=
  [ .op0 .ld_atIY_A, .op0 .ld_atIY_B, .op0 .ld_atIY_L, .op0 .ld_atIY_H,
    .op1 .ld_atIY_atBRll, .op0 .ld_atIY_atHL, .op0 .ld_atIY_atIX, .op0 .ld_atIY_atIY,
    .op1 .ld_atBRll_A, .op1 .ld_atBRll_B, .op1 .ld_atBRll_L, .op1 .ld_atBRll_H,
    .undefined, .op1 .ld_atBRll_atHL, .op1 .ld_atBRll_atIX, .op1 .ld_atBRll_atIY ]

/-- First-opcode codes 80H to 8FH (30_encoding.md R106). -/
def firstMap8 : List Opcode :=
  [ .op0 .incA, .op0 .incB, .op0 .incL, .op0 .incH,
    .op0 .incBR, .op1 .inc_atBRll, .op0 .inc_atHL, .op0 .incSP,
    .op0 .decA, .op0 .decB, .op0 .decL, .op0 .decH,
    .op0 .decBR, .op1 .dec_atBRll, .op0 .dec_atHL, .op0 .decSP ]

/-- First-opcode codes 90H to 9FH (30_encoding.md R106). -/
def firstMap9 : List Opcode :=
  [ .op0 .incBA, .op0 .incHL, .op0 .incIX, .op0 .incIY,
    .op0 .bitA_B, .op1 .bit_atHL_imm, .op1 .bitA_imm, .op1 .bitB_imm,
    .op0 .decBA, .op0 .decHL, .op0 .decIX, .op0 .decIY,
    .op1 .andSC_imm, .op1 .orSC_imm, .op1 .xorSC_imm, .op1 .ldSC_imm ]

/-- First-opcode codes A0H to AFH (30_encoding.md R106). -/
def firstMapA : List Opcode :=
  [ .op0 .pushBA, .op0 .pushHL, .op0 .pushIX, .op0 .pushIY,
    .op0 .pushBR, .op0 .pushEP, .op0 .pushIP, .op0 .pushSC,
    .op0 .popBA, .op0 .popHL, .op0 .popIX, .op0 .popIY,
    .op0 .popBR, .op0 .popEP, .op0 .popIP, .op0 .popSC ]

/-- First-opcode codes B0H to BFH (30_encoding.md R106). -/
def firstMapB : List Opcode :=
  [ .op1 .ldA_imm, .op1 .ldB_imm, .op1 .ldL_imm, .op1 .ldH_imm,
    .op1 .ldBR_imm, .op1 .ld_atHL_imm, .op1 .ld_atIX_imm, .op1 .ld_atIY_imm,
    .op16 .ldBA_athhll, .op16 .ldHL_athhll, .op16 .ldIX_athhll, .op16 .ldIY_athhll,
    .op16 .ld_athhll_BA, .op16 .ld_athhll_HL, .op16 .ld_athhll_IX, .op16 .ld_athhll_IY ]

/-- First-opcode codes C0H to CFH (30_encoding.md R106). -/
def firstMapC : List Opcode :=
  [ .op16 .addBA_imm, .op16 .addHL_imm, .op16 .addIX_imm, .op16 .addIY_imm,
    .op16 .ldBA_imm, .op16 .ldHL_imm, .op16 .ldIX_imm, .op16 .ldIY_imm,
    .op0 .exBA_HL, .op0 .exBA_IX, .op0 .exBA_IY, .op0 .exBA_SP,
    .op0 .exA_B, .op0 .exA_atHL, .undefined, .undefined ]

/-- First-opcode codes D0H to DFH (30_encoding.md R106). -/
def firstMapD : List Opcode :=
  [ .op16 .subBA_imm, .op16 .subHL_imm, .op16 .subIX_imm, .op16 .subIY_imm,
    .op16 .cpBA_imm, .op16 .cpHL_imm, .op16 .cpIX_imm, .op16 .cpIY_imm,
    .op2 .and_atBRll_imm, .op2 .or_atBRll_imm, .op2 .xor_atBRll_imm, .op2 .cp_atBRll_imm,
    .op2 .bit_atBRll_imm, .op2 .ld_atBRll_imm, .op0 .pack, .op0 .upck ]

/-- First-opcode codes E0H to EFH (30_encoding.md R106). -/
def firstMapE : List Opcode :=
  [ .op1 .carsC, .op1 .carsNC, .op1 .carsZ, .op1 .carsNZ,
    .op1 .jrsC, .op1 .jrsNC, .op1 .jrsZ, .op1 .jrsNZ,
    .op16 .carlC, .op16 .carlNC, .op16 .carlZ, .op16 .carlNZ,
    .op16 .jrlC, .op16 .jrlNC, .op16 .jrlZ, .op16 .jrlNZ ]

/-- First-opcode codes F0H to FFH (30_encoding.md R106). -/
def firstMapF : List Opcode :=
  [ .op1 .cars, .op1 .jrs, .op16 .carl, .op16 .jrl,
    .op0 .jpHL, .op1 .djrNZ, .op0 .swapA, .op0 .swap_atHL,
    .op0 .ret, .op0 .rete, .op0 .rets, .op16 .call_athhll,
    .op1 .int_atkk, .op1 .jp_atkk, .undefined, .op0 .nop ]

/-- First-opcode map, by high and then low half of the code (30_encoding.md R106). -/
def firstMap : List (List Opcode) :=
  [ firstMap0, firstMap1, firstMap2, firstMap3, firstMap4, firstMap5, firstMap6, firstMap7,
    firstMap8, firstMap9, firstMapA, firstMapB, firstMapC, firstMapD, firstMapE, firstMapF ]

/-- After CEH, second-opcode codes 00H to 0FH (30_encoding.md R107). -/
def mapCE0 : List Opcode :=
  [ .op1 .addA_atIXdd, .op1 .addA_atIYdd, .op0 .addA_atIXL, .op0 .addA_atIYL,
    .op0 .add_atHL_A, .op1 .add_atHL_imm, .op0 .add_atHL_atIX, .op0 .add_atHL_atIY,
    .op1 .adcA_atIXdd, .op1 .adcA_atIYdd, .op0 .adcA_atIXL, .op0 .adcA_atIYL,
    .op0 .adc_atHL_A, .op1 .adc_atHL_imm, .op0 .adc_atHL_atIX, .op0 .adc_atHL_atIY ]

/-- After CEH, second-opcode codes 10H to 1FH (30_encoding.md R107). -/
def mapCE1 : List Opcode :=
  [ .op1 .subA_atIXdd, .op1 .subA_atIYdd, .op0 .subA_atIXL, .op0 .subA_atIYL,
    .op0 .sub_atHL_A, .op1 .sub_atHL_imm, .op0 .sub_atHL_atIX, .op0 .sub_atHL_atIY,
    .op1 .sbcA_atIXdd, .op1 .sbcA_atIYdd, .op0 .sbcA_atIXL, .op0 .sbcA_atIYL,
    .op0 .sbc_atHL_A, .op1 .sbc_atHL_imm, .op0 .sbc_atHL_atIX, .op0 .sbc_atHL_atIY ]

/-- After CEH, second-opcode codes 20H to 2FH (30_encoding.md R107). -/
def mapCE2 : List Opcode :=
  [ .op1 .andA_atIXdd, .op1 .andA_atIYdd, .op0 .andA_atIXL, .op0 .andA_atIYL,
    .op0 .and_atHL_A, .op1 .and_atHL_imm, .op0 .and_atHL_atIX, .op0 .and_atHL_atIY,
    .op1 .orA_atIXdd, .op1 .orA_atIYdd, .op0 .orA_atIXL, .op0 .orA_atIYL,
    .op0 .or_atHL_A, .op1 .or_atHL_imm, .op0 .or_atHL_atIX, .op0 .or_atHL_atIY ]

/-- After CEH, second-opcode codes 30H to 3FH (30_encoding.md R107). -/
def mapCE3 : List Opcode :=
  [ .op1 .cpA_atIXdd, .op1 .cpA_atIYdd, .op0 .cpA_atIXL, .op0 .cpA_atIYL,
    .op0 .cp_atHL_A, .op1 .cp_atHL_imm, .op0 .cp_atHL_atIX, .op0 .cp_atHL_atIY,
    .op1 .xorA_atIXdd, .op1 .xorA_atIYdd, .op0 .xorA_atIXL, .op0 .xorA_atIYL,
    .op0 .xor_atHL_A, .op1 .xor_atHL_imm, .op0 .xor_atHL_atIX, .op0 .xor_atHL_atIY ]

/-- After CEH, second-opcode codes 40H to 4FH (30_encoding.md R107). -/
def mapCE4 : List Opcode :=
  [ .op1 .ldA_atIXdd, .op1 .ldA_atIYdd, .op0 .ldA_atIXL, .op0 .ldA_atIYL,
    .op1 .ld_atIXdd_A, .op1 .ld_atIYdd_A, .op0 .ld_atIXL_A, .op0 .ld_atIYL_A,
    .op1 .ldB_atIXdd, .op1 .ldB_atIYdd, .op0 .ldB_atIXL, .op0 .ldB_atIYL,
    .op1 .ld_atIXdd_B, .op1 .ld_atIYdd_B, .op0 .ld_atIXL_B, .op0 .ld_atIYL_B ]

/-- After CEH, second-opcode codes 50H to 5FH (30_encoding.md R107). -/
def mapCE5 : List Opcode :=
  [ .op1 .ldL_atIXdd, .op1 .ldL_atIYdd, .op0 .ldL_atIXL, .op0 .ldL_atIYL,
    .op1 .ld_atIXdd_L, .op1 .ld_atIYdd_L, .op0 .ld_atIXL_L, .op0 .ld_atIYL_L,
    .op1 .ldH_atIXdd, .op1 .ldH_atIYdd, .op0 .ldH_atIXL, .op0 .ldH_atIYL,
    .op1 .ld_atIXdd_H, .op1 .ld_atIYdd_H, .op0 .ld_atIXL_H, .op0 .ld_atIYL_H ]

/-- After CEH, second-opcode codes 60H to 6FH (30_encoding.md R107). -/
def mapCE6 : List Opcode :=
  [ .op1 .ld_atHL_atIXdd, .op1 .ld_atHL_atIYdd, .op0 .ld_atHL_atIXL, .op0 .ld_atHL_atIYL,
    .undefined, .undefined, .undefined, .undefined,
    .op1 .ld_atIX_atIXdd, .op1 .ld_atIX_atIYdd, .op0 .ld_atIX_atIXL, .op0 .ld_atIX_atIYL,
    .undefined, .undefined, .undefined, .undefined ]

/-- After CEH, second-opcode codes 70H to 7FH (30_encoding.md R107). -/
def mapCE7 : List Opcode :=
  [ .undefined, .undefined, .undefined, .undefined,
    .undefined, .undefined, .undefined, .undefined,
    .op1 .ld_atIY_atIXdd, .op1 .ld_atIY_atIYdd, .op0 .ld_atIY_atIXL, .op0 .ld_atIY_atIYL,
    .undefined, .undefined, .undefined, .undefined ]

/-- After CEH, second-opcode codes 80H to 8FH (30_encoding.md R107). -/
def mapCE8 : List Opcode :=
  [ .op0 .slaA, .op0 .slaB, .op1 .sla_atBRll, .op0 .sla_atHL,
    .op0 .sllA, .op0 .sllB, .op1 .sll_atBRll, .op0 .sll_atHL,
    .op0 .sraA, .op0 .sraB, .op1 .sra_atBRll, .op0 .sra_atHL,
    .op0 .srlA, .op0 .srlB, .op1 .srl_atBRll, .op0 .srl_atHL ]

/-- After CEH, second-opcode codes 90H to 9FH (30_encoding.md R107). -/
def mapCE9 : List Opcode :=
  [ .op0 .rlA, .op0 .rlB, .op1 .rl_atBRll, .op0 .rl_atHL,
    .op0 .rlcA, .op0 .rlcB, .op1 .rlc_atBRll, .op0 .rlc_atHL,
    .op0 .rrA, .op0 .rrB, .op1 .rr_atBRll, .op0 .rr_atHL,
    .op0 .rrcA, .op0 .rrcB, .op1 .rrc_atBRll, .op0 .rrc_atHL ]

/-- After CEH, second-opcode codes A0H to AFH (30_encoding.md R107). -/
def mapCEA : List Opcode :=
  [ .op0 .cplA, .op0 .cplB, .op1 .cpl_atBRll, .op0 .cpl_atHL,
    .op0 .negA, .op0 .negB, .op1 .neg_atBRll, .op0 .neg_atHL,
    .op0 .sep, .undefined, .undefined, .undefined,
    .undefined, .undefined, .op0 .halt, .op0 .slp ]

/-- After CEH, second-opcode codes B0H to BFH (30_encoding.md R107). -/
def mapCEB : List Opcode :=
  [ .op1 .andB_imm, .op1 .andL_imm, .op1 .andH_imm, .undefined,
    .op1 .orB_imm, .op1 .orL_imm, .op1 .orH_imm, .undefined,
    .op1 .xorB_imm, .op1 .xorL_imm, .op1 .xorH_imm, .undefined,
    .op1 .cpB_imm, .op1 .cpL_imm, .op1 .cpH_imm, .op1 .cpBR_imm ]

/-- After CEH, second-opcode codes C0H to CFH (30_encoding.md R107). -/
def mapCEC : List Opcode :=
  [ .op0 .ldA_BR, .op0 .ldA_SC, .op0 .ldBR_A, .op0 .ldSC_A,
    .op1 .ldNB_imm, .op1 .ldEP_imm, .op1 .ldXP_imm, .op1 .ldYP_imm,
    .op0 .ldA_NB, .op0 .ldA_EP, .op0 .ldA_XP, .op0 .ldA_YP,
    .op0 .ldNB_A, .op0 .ldEP_A, .op0 .ldXP_A, .op0 .ldYP_A ]

/-- After CEH, second-opcode codes D0H to DFH (30_encoding.md R107). -/
def mapCED : List Opcode :=
  [ .op16 .ldA_athhll, .op16 .ldB_athhll, .op16 .ldL_athhll, .op16 .ldH_athhll,
    .op16 .ld_athhll_A, .op16 .ld_athhll_B, .op16 .ld_athhll_L, .op16 .ld_athhll_H,
    .op0 .mlt, .op0 .div, .undefined, .undefined,
    .undefined, .undefined, .undefined, .undefined ]

/-- After CEH, second-opcode codes E0H to EFH (30_encoding.md R107). -/
def mapCEE : List Opcode :=
  [ .op1 .jrsLT, .op1 .jrsLE, .op1 .jrsGT, .op1 .jrsGE,
    .op1 .jrsV, .op1 .jrsNV, .op1 .jrsP, .op1 .jrsM,
    .op1 .jrsF0, .op1 .jrsF1, .op1 .jrsF2, .op1 .jrsF3,
    .op1 .jrsNF0, .op1 .jrsNF1, .op1 .jrsNF2, .op1 .jrsNF3 ]

/-- After CEH, second-opcode codes F0H to FFH (30_encoding.md R107). -/
def mapCEF : List Opcode :=
  [ .op1 .carsLT, .op1 .carsLE, .op1 .carsGT, .op1 .carsGE,
    .op1 .carsV, .op1 .carsNV, .op1 .carsP, .op1 .carsM,
    .op1 .carsF0, .op1 .carsF1, .op1 .carsF2, .op1 .carsF3,
    .op1 .carsNF0, .op1 .carsNF1, .op1 .carsNF2, .op1 .carsNF3 ]

/-- After CEH, second-opcode map, by high and then low half of the code (30_encoding.md R107). -/
def mapCE : List (List Opcode) :=
  [ mapCE0, mapCE1, mapCE2, mapCE3, mapCE4, mapCE5, mapCE6, mapCE7,
    mapCE8, mapCE9, mapCEA, mapCEB, mapCEC, mapCED, mapCEE, mapCEF ]

/-- After CFH, second-opcode codes 00H to 0FH (30_encoding.md R108). -/
def mapCF0 : List Opcode :=
  [ .op0 .addBA_BA, .op0 .addBA_HL, .op0 .addBA_IX, .op0 .addBA_IY,
    .op0 .adcBA_BA, .op0 .adcBA_HL, .op0 .adcBA_IX, .op0 .adcBA_IY,
    .op0 .subBA_BA, .op0 .subBA_HL, .op0 .subBA_IX, .op0 .subBA_IY,
    .op0 .sbcBA_BA, .op0 .sbcBA_HL, .op0 .sbcBA_IX, .op0 .sbcBA_IY ]

/-- After CFH, second-opcode codes 10H to 1FH (30_encoding.md R108). -/
def mapCF1 : List Opcode :=
  [ .undefined, .undefined, .undefined, .undefined,
    .undefined, .undefined, .undefined, .undefined,
    .op0 .cpBA_BA, .op0 .cpBA_HL, .op0 .cpBA_IX, .op0 .cpBA_IY,
    .undefined, .undefined, .undefined, .undefined ]

/-- After CFH, second-opcode codes 20H to 2FH (30_encoding.md R108). -/
def mapCF2 : List Opcode :=
  [ .op0 .addHL_BA, .op0 .addHL_HL, .op0 .addHL_IX, .op0 .addHL_IY,
    .op0 .adcHL_BA, .op0 .adcHL_HL, .op0 .adcHL_IX, .op0 .adcHL_IY,
    .op0 .subHL_BA, .op0 .subHL_HL, .op0 .subHL_IX, .op0 .subHL_IY,
    .op0 .sbcHL_BA, .op0 .sbcHL_HL, .op0 .sbcHL_IX, .op0 .sbcHL_IY ]

/-- After CFH, second-opcode codes 30H to 3FH (30_encoding.md R108). -/
def mapCF3 : List Opcode :=
  [ .undefined, .undefined, .undefined, .undefined,
    .undefined, .undefined, .undefined, .undefined,
    .op0 .cpHL_BA, .op0 .cpHL_HL, .op0 .cpHL_IX, .op0 .cpHL_IY,
    .undefined, .undefined, .undefined, .undefined ]

/-- After CFH, second-opcode codes 40H to 4FH (30_encoding.md R108). -/
def mapCF4 : List Opcode :=
  [ .op0 .addIX_BA, .op0 .addIX_HL, .op0 .addIY_BA, .op0 .addIY_HL,
    .op0 .addSP_BA, .op0 .addSP_HL, .undefined, .undefined,
    .op0 .subIX_BA, .op0 .subIX_HL, .op0 .subIY_BA, .op0 .subIY_HL,
    .op0 .subSP_BA, .op0 .subSP_HL, .undefined, .undefined ]

/-- After CFH, second-opcode codes 50H to 5FH (30_encoding.md R108). -/
def mapCF5 : List Opcode :=
  [ .undefined, .undefined, .undefined, .undefined,
    .undefined, .undefined, .undefined, .undefined,
    .undefined, .undefined, .undefined, .undefined,
    .op0 .cpSP_BA, .op0 .cpSP_HL, .undefined, .undefined ]

/-- After CFH, second-opcode codes 60H to 6FH (30_encoding.md R108). -/
def mapCF6 : List Opcode :=
  [ .op16 .adcBA_imm, .op16 .adcHL_imm, .op16 .sbcBA_imm, .op16 .sbcHL_imm,
    .undefined, .undefined, .undefined, .undefined,
    .op16 .addSP_imm, .undefined, .op16 .subSP_imm, .undefined,
    .op16 .cpSP_imm, .undefined, .op16 .ldSP_imm, .undefined ]

/-- After CFH, second-opcode codes 70H to 7FH (30_encoding.md R108). -/
def mapCF7 : List Opcode :=
  [ .op1 .ldBA_atSPdd, .op1 .ldHL_atSPdd, .op1 .ldIX_atSPdd, .op1 .ldIY_atSPdd,
    .op1 .ld_atSPdd_BA, .op1 .ld_atSPdd_HL, .op1 .ld_atSPdd_IX, .op1 .ld_atSPdd_IY,
    .op16 .ldSP_athhll, .undefined, .undefined, .undefined,
    .op16 .ld_athhll_SP, .undefined, .undefined, .undefined ]

/-- After CFH, second-opcode codes 80H to 8FH (30_encoding.md R108). -/
def mapCF8 : List Opcode :=
  [ .undefined, .undefined, .undefined, .undefined,
    .undefined, .undefined, .undefined, .undefined,
    .undefined, .undefined, .undefined, .undefined,
    .undefined, .undefined, .undefined, .undefined ]

/-- After CFH, second-opcode codes 90H to 9FH (30_encoding.md R108). -/
def mapCF9 : List Opcode :=
  [ .undefined, .undefined, .undefined, .undefined,
    .undefined, .undefined, .undefined, .undefined,
    .undefined, .undefined, .undefined, .undefined,
    .undefined, .undefined, .undefined, .undefined ]

/-- After CFH, second-opcode codes A0H to AFH (30_encoding.md R108). -/
def mapCFA : List Opcode :=
  [ .undefined, .undefined, .undefined, .undefined,
    .undefined, .undefined, .undefined, .undefined,
    .undefined, .undefined, .undefined, .undefined,
    .undefined, .undefined, .undefined, .undefined ]

/-- After CFH, second-opcode codes B0H to BFH (30_encoding.md R108). -/
def mapCFB : List Opcode :=
  [ .op0 .pushA, .op0 .pushB, .op0 .pushL, .op0 .pushH,
    .op0 .popA, .op0 .popB, .op0 .popL, .op0 .popH,
    .op0 .pushALL, .op0 .pushALE, .undefined, .undefined,
    .op0 .popALL, .op0 .popALE, .undefined, .undefined ]

/-- After CFH, second-opcode codes C0H to CFH (30_encoding.md R108). -/
def mapCFC : List Opcode :=
  [ .op0 .ldBA_atHL, .op0 .ldHL_atHL, .op0 .ldIX_atHL, .op0 .ldIY_atHL,
    .op0 .ld_atHL_BA, .op0 .ld_atHL_HL, .op0 .ld_atHL_IX, .op0 .ld_atHL_IY,
    .undefined, .undefined, .undefined, .undefined,
    .undefined, .undefined, .undefined, .undefined ]

/-- After CFH, second-opcode codes D0H to DFH (30_encoding.md R108). -/
def mapCFD : List Opcode :=
  [ .op0 .ldBA_atIX, .op0 .ldHL_atIX, .op0 .ldIX_atIX, .op0 .ldIY_atIX,
    .op0 .ld_atIX_BA, .op0 .ld_atIX_HL, .op0 .ld_atIX_IX, .op0 .ld_atIX_IY,
    .op0 .ldBA_atIY, .op0 .ldHL_atIY, .op0 .ldIX_atIY, .op0 .ldIY_atIY,
    .op0 .ld_atIY_BA, .op0 .ld_atIY_HL, .op0 .ld_atIY_IX, .op0 .ld_atIY_IY ]

/-- After CFH, second-opcode codes E0H to EFH (30_encoding.md R108). -/
def mapCFE : List Opcode :=
  [ .op0 .ldBA_BA, .op0 .ldBA_HL, .op0 .ldBA_IX, .op0 .ldBA_IY,
    .op0 .ldHL_BA, .op0 .ldHL_HL, .op0 .ldHL_IX, .op0 .ldHL_IY,
    .op0 .ldIX_BA, .op0 .ldIX_HL, .op0 .ldIX_IX, .op0 .ldIX_IY,
    .op0 .ldIY_BA, .op0 .ldIY_HL, .op0 .ldIY_IX, .op0 .ldIY_IY ]

/-- After CFH, second-opcode codes F0H to FFH (30_encoding.md R108). -/
def mapCFF : List Opcode :=
  [ .op0 .ldSP_BA, .op0 .ldSP_HL, .op0 .ldSP_IX, .op0 .ldSP_IY,
    .op0 .ldHL_SP, .op0 .ldHL_PC, .undefined, .undefined,
    .op0 .ldBA_SP, .op0 .ldBA_PC, .op0 .ldIX_SP, .undefined,
    .undefined, .undefined, .op0 .ldIY_SP, .undefined ]

/-- After CFH, second-opcode map, by high and then low half of the code (30_encoding.md R108). -/
def mapCF : List (List Opcode) :=
  [ mapCF0, mapCF1, mapCF2, mapCF3, mapCF4, mapCF5, mapCF6, mapCF7,
    mapCF8, mapCF9, mapCFA, mapCFB, mapCFC, mapCFD, mapCFE, mapCFF ]

/-- The cell of `map` for opcode byte `b`. -/
def lookupOpcode (map : List (List Opcode)) (b : Byte) : Opcode :=
  ((map[b.toNat / 16]?).bind fun row => row[b.toNat % 16]?).getD .undefined

/-- Takes the operand bytes of a cell from `rest`, after `opcodes` opcode bytes; answers the instruction and its
length in bytes (30_encoding.md R101, R103, R105). -/
def takeOperands (cell : Opcode) (undefinedCode : DecodeError) (opcodes : Nat) (rest : List Byte) :
    Except DecodeError (Instr × Nat) :=
  match cell, rest with
  | .undefined, _ => .error undefinedCode
  | .op0 i, _ => .ok (i, opcodes)
  | .op1 f, x :: _ => .ok (f x, opcodes + 1)
  | .op16 f, lo :: hi :: _ => .ok (f (word16 hi lo), opcodes + 2)
  | .op2 f, x :: y :: _ => .ok (f x y, opcodes + 2)
  | .op1 _, [] => .error .truncated
  | .op16 _, [] => .error .truncated
  | .op16 _, [_] => .error .truncated
  | .op2 _, [] => .error .truncated
  | .op2 _, [_] => .error .truncated

/-- The decoding algorithm of 30_encoding.md R105: the instruction that begins a byte sequence, and its length. -/
def decode : List Byte → Except DecodeError (Instr × Nat)
  | [] => .error .truncated
  | b0 :: rest =>
    if b0 = 0xCE#8 then
      match rest with
      | [] => .error .truncated
      | b1 :: rest => takeOperands (lookupOpcode mapCE b1) (.undefinedSecond b0 b1) 2 rest
    else if b0 = 0xCF#8 then
      match rest with
      | [] => .error .truncated
      | b1 :: rest => takeOperands (lookupOpcode mapCF b1) (.undefinedSecond b0 b1) 2 rest
    else takeOperands (lookupOpcode firstMap b0) (.undefinedFirst b0) 1 rest

/-- The first four bytes of a table word: bit 0 of `w` is the least significant bit of the first byte, and bits from
`nbits` up are 0. -/
def tableWordBytes (nbits w : Nat) : List Byte :=
  let v := w % 2 ^ nbits
  [ BitVec.ofNat 8 v, BitVec.ofNat 8 (v / 2 ^ 8), BitVec.ofNat 8 (v / 2 ^ 16), BitVec.ofNat 8 (v / 2 ^ 24) ]

/-- The instruction that `decode` reads from a row's word of spec/opcode_table.json. -/
def decodeTableWord (nbits w : Nat) : Option Instr :=
  match decode (tableWordBytes nbits w) with
  | .ok (i, _) => some i
  | .error _ => none

/-- The bytes of an instruction in address order (30_encoding.md R101 to R103, R106 to R108). -/
def encode : Instr → List Byte
  | .ldA_A => [0x40#8]
  | .ldA_B => [0x41#8]
  | .ldA_L => [0x42#8]
  | .ldA_H => [0x43#8]
  | .ldB_A => [0x48#8]
  | .ldB_B => [0x49#8]
  | .ldB_L => [0x4A#8]
  | .ldB_H => [0x4B#8]
  | .ldL_A => [0x50#8]
  | .ldL_B => [0x51#8]
  | .ldL_L => [0x52#8]
  | .ldL_H => [0x53#8]
  | .ldH_A => [0x58#8]
  | .ldH_B => [0x59#8]
  | .ldH_L => [0x5A#8]
  | .ldH_H => [0x5B#8]
  | .ldA_BR => [0xCE#8, 0xC0#8]
  | .ldA_SC => [0xCE#8, 0xC1#8]
  | .ldBR_A => [0xCE#8, 0xC2#8]
  | .ldSC_A => [0xCE#8, 0xC3#8]
  | .ldNB_imm bb => [0xCE#8, 0xC4#8, bb]
  | .ldEP_imm pp => [0xCE#8, 0xC5#8, pp]
  | .ldXP_imm pp => [0xCE#8, 0xC6#8, pp]
  | .ldYP_imm pp => [0xCE#8, 0xC7#8, pp]
  | .ldA_NB => [0xCE#8, 0xC8#8]
  | .ldA_EP => [0xCE#8, 0xC9#8]
  | .ldA_XP => [0xCE#8, 0xCA#8]
  | .ldA_YP => [0xCE#8, 0xCB#8]
  | .ldNB_A => [0xCE#8, 0xCC#8]
  | .ldEP_A => [0xCE#8, 0xCD#8]
  | .ldXP_A => [0xCE#8, 0xCE#8]
  | .ldYP_A => [0xCE#8, 0xCF#8]
  | .ldA_imm nn => [0xB0#8, nn]
  | .ldB_imm nn => [0xB1#8, nn]
  | .ldL_imm nn => [0xB2#8, nn]
  | .ldH_imm nn => [0xB3#8, nn]
  | .ldBR_imm hh => [0xB4#8, hh]
  | .ldSC_imm nn => [0x9F#8, nn]
  | .ldA_atBRll ll => [0x44#8, ll]
  | .ldB_atBRll ll => [0x4C#8, ll]
  | .ldL_atBRll ll => [0x54#8, ll]
  | .ldH_atBRll ll => [0x5C#8, ll]
  | .ldA_athhll hhll => [0xCE#8, 0xD0#8, lowByte hhll, highByte hhll]
  | .ldB_athhll hhll => [0xCE#8, 0xD1#8, lowByte hhll, highByte hhll]
  | .ldL_athhll hhll => [0xCE#8, 0xD2#8, lowByte hhll, highByte hhll]
  | .ldH_athhll hhll => [0xCE#8, 0xD3#8, lowByte hhll, highByte hhll]
  | .ldA_atHL => [0x45#8]
  | .ldB_atHL => [0x4D#8]
  | .ldL_atHL => [0x55#8]
  | .ldH_atHL => [0x5D#8]
  | .ldA_atIX => [0x46#8]
  | .ldB_atIX => [0x4E#8]
  | .ldL_atIX => [0x56#8]
  | .ldH_atIX => [0x5E#8]
  | .ldA_atIY => [0x47#8]
  | .ldB_atIY => [0x4F#8]
  | .ldL_atIY => [0x57#8]
  | .ldH_atIY => [0x5F#8]
  | .ldA_atIXdd dd => [0xCE#8, 0x40#8, dd]
  | .ldB_atIXdd dd => [0xCE#8, 0x48#8, dd]
  | .ldL_atIXdd dd => [0xCE#8, 0x50#8, dd]
  | .ldH_atIXdd dd => [0xCE#8, 0x58#8, dd]
  | .ldA_atIYdd dd => [0xCE#8, 0x41#8, dd]
  | .ldB_atIYdd dd => [0xCE#8, 0x49#8, dd]
  | .ldL_atIYdd dd => [0xCE#8, 0x51#8, dd]
  | .ldH_atIYdd dd => [0xCE#8, 0x59#8, dd]
  | .ldA_atIXL => [0xCE#8, 0x42#8]
  | .ldB_atIXL => [0xCE#8, 0x4A#8]
  | .ldL_atIXL => [0xCE#8, 0x52#8]
  | .ldH_atIXL => [0xCE#8, 0x5A#8]
  | .ldA_atIYL => [0xCE#8, 0x43#8]
  | .ldB_atIYL => [0xCE#8, 0x4B#8]
  | .ldL_atIYL => [0xCE#8, 0x53#8]
  | .ldH_atIYL => [0xCE#8, 0x5B#8]
  | .ld_atBRll_A ll => [0x78#8, ll]
  | .ld_atBRll_B ll => [0x79#8, ll]
  | .ld_atBRll_L ll => [0x7A#8, ll]
  | .ld_atBRll_H ll => [0x7B#8, ll]
  | .ld_athhll_A hhll => [0xCE#8, 0xD4#8, lowByte hhll, highByte hhll]
  | .ld_athhll_B hhll => [0xCE#8, 0xD5#8, lowByte hhll, highByte hhll]
  | .ld_athhll_L hhll => [0xCE#8, 0xD6#8, lowByte hhll, highByte hhll]
  | .ld_athhll_H hhll => [0xCE#8, 0xD7#8, lowByte hhll, highByte hhll]
  | .ld_atHL_A => [0x68#8]
  | .ld_atHL_B => [0x69#8]
  | .ld_atHL_L => [0x6A#8]
  | .ld_atHL_H => [0x6B#8]
  | .ld_atIX_A => [0x60#8]
  | .ld_atIX_B => [0x61#8]
  | .ld_atIX_L => [0x62#8]
  | .ld_atIX_H => [0x63#8]
  | .ld_atIY_A => [0x70#8]
  | .ld_atIY_B => [0x71#8]
  | .ld_atIY_L => [0x72#8]
  | .ld_atIY_H => [0x73#8]
  | .ld_atIXdd_A dd => [0xCE#8, 0x44#8, dd]
  | .ld_atIXdd_B dd => [0xCE#8, 0x4C#8, dd]
  | .ld_atIXdd_L dd => [0xCE#8, 0x54#8, dd]
  | .ld_atIXdd_H dd => [0xCE#8, 0x5C#8, dd]
  | .ld_atIYdd_A dd => [0xCE#8, 0x45#8, dd]
  | .ld_atIYdd_B dd => [0xCE#8, 0x4D#8, dd]
  | .ld_atIYdd_L dd => [0xCE#8, 0x55#8, dd]
  | .ld_atIYdd_H dd => [0xCE#8, 0x5D#8, dd]
  | .ld_atIXL_A => [0xCE#8, 0x46#8]
  | .ld_atIXL_B => [0xCE#8, 0x4E#8]
  | .ld_atIXL_L => [0xCE#8, 0x56#8]
  | .ld_atIXL_H => [0xCE#8, 0x5E#8]
  | .ld_atIYL_A => [0xCE#8, 0x47#8]
  | .ld_atIYL_B => [0xCE#8, 0x4F#8]
  | .ld_atIYL_L => [0xCE#8, 0x57#8]
  | .ld_atIYL_H => [0xCE#8, 0x5F#8]
  | .ld_atBRll_imm ll nn => [0xDD#8, ll, nn]
  | .ld_atHL_imm nn => [0xB5#8, nn]
  | .ld_atIX_imm nn => [0xB6#8, nn]
  | .ld_atIY_imm nn => [0xB7#8, nn]
  | .ld_atBRll_atHL ll => [0x7D#8, ll]
  | .ld_atBRll_atIX ll => [0x7E#8, ll]
  | .ld_atBRll_atIY ll => [0x7F#8, ll]
  | .ld_atHL_atBRll ll => [0x6C#8, ll]
  | .ld_atHL_atHL => [0x6D#8]
  | .ld_atHL_atIX => [0x6E#8]
  | .ld_atHL_atIY => [0x6F#8]
  | .ld_atHL_atIXdd dd => [0xCE#8, 0x60#8, dd]
  | .ld_atHL_atIYdd dd => [0xCE#8, 0x61#8, dd]
  | .ld_atHL_atIXL => [0xCE#8, 0x62#8]
  | .ld_atHL_atIYL => [0xCE#8, 0x63#8]
  | .ld_atIX_atBRll ll => [0x64#8, ll]
  | .ld_atIX_atHL => [0x65#8]
  | .ld_atIX_atIX => [0x66#8]
  | .ld_atIX_atIY => [0x67#8]
  | .ld_atIX_atIXdd dd => [0xCE#8, 0x68#8, dd]
  | .ld_atIX_atIYdd dd => [0xCE#8, 0x69#8, dd]
  | .ld_atIX_atIXL => [0xCE#8, 0x6A#8]
  | .ld_atIX_atIYL => [0xCE#8, 0x6B#8]
  | .ld_atIY_atBRll ll => [0x74#8, ll]
  | .ld_atIY_atHL => [0x75#8]
  | .ld_atIY_atIX => [0x76#8]
  | .ld_atIY_atIY => [0x77#8]
  | .ld_atIY_atIXdd dd => [0xCE#8, 0x78#8, dd]
  | .ld_atIY_atIYdd dd => [0xCE#8, 0x79#8, dd]
  | .ld_atIY_atIXL => [0xCE#8, 0x7A#8]
  | .ld_atIY_atIYL => [0xCE#8, 0x7B#8]
  | .exA_B => [0xCC#8]
  | .exA_atHL => [0xCD#8]
  | .swapA => [0xF6#8]
  | .swap_atHL => [0xF7#8]
  | .ldBA_BA => [0xCF#8, 0xE0#8]
  | .ldBA_HL => [0xCF#8, 0xE1#8]
  | .ldBA_IX => [0xCF#8, 0xE2#8]
  | .ldBA_IY => [0xCF#8, 0xE3#8]
  | .ldHL_BA => [0xCF#8, 0xE4#8]
  | .ldHL_HL => [0xCF#8, 0xE5#8]
  | .ldHL_IX => [0xCF#8, 0xE6#8]
  | .ldHL_IY => [0xCF#8, 0xE7#8]
  | .ldIX_BA => [0xCF#8, 0xE8#8]
  | .ldIX_HL => [0xCF#8, 0xE9#8]
  | .ldIX_IX => [0xCF#8, 0xEA#8]
  | .ldIX_IY => [0xCF#8, 0xEB#8]
  | .ldIY_BA => [0xCF#8, 0xEC#8]
  | .ldIY_HL => [0xCF#8, 0xED#8]
  | .ldIY_IX => [0xCF#8, 0xEE#8]
  | .ldIY_IY => [0xCF#8, 0xEF#8]
  | .ldBA_PC => [0xCF#8, 0xF9#8]
  | .ldBA_SP => [0xCF#8, 0xF8#8]
  | .ldHL_PC => [0xCF#8, 0xF5#8]
  | .ldHL_SP => [0xCF#8, 0xF4#8]
  | .ldIX_SP => [0xCF#8, 0xFA#8]
  | .ldIY_SP => [0xCF#8, 0xFE#8]
  | .ldSP_BA => [0xCF#8, 0xF0#8]
  | .ldSP_HL => [0xCF#8, 0xF1#8]
  | .ldSP_IX => [0xCF#8, 0xF2#8]
  | .ldSP_IY => [0xCF#8, 0xF3#8]
  | .ldBA_imm mmnn => [0xC4#8, lowByte mmnn, highByte mmnn]
  | .ldHL_imm mmnn => [0xC5#8, lowByte mmnn, highByte mmnn]
  | .ldIX_imm mmnn => [0xC6#8, lowByte mmnn, highByte mmnn]
  | .ldIY_imm mmnn => [0xC7#8, lowByte mmnn, highByte mmnn]
  | .ldSP_imm mmnn => [0xCF#8, 0x6E#8, lowByte mmnn, highByte mmnn]
  | .ldBA_athhll hhll => [0xB8#8, lowByte hhll, highByte hhll]
  | .ldHL_athhll hhll => [0xB9#8, lowByte hhll, highByte hhll]
  | .ldIX_athhll hhll => [0xBA#8, lowByte hhll, highByte hhll]
  | .ldIY_athhll hhll => [0xBB#8, lowByte hhll, highByte hhll]
  | .ldSP_athhll hhll => [0xCF#8, 0x78#8, lowByte hhll, highByte hhll]
  | .ldBA_atHL => [0xCF#8, 0xC0#8]
  | .ldHL_atHL => [0xCF#8, 0xC1#8]
  | .ldIX_atHL => [0xCF#8, 0xC2#8]
  | .ldIY_atHL => [0xCF#8, 0xC3#8]
  | .ldBA_atIX => [0xCF#8, 0xD0#8]
  | .ldHL_atIX => [0xCF#8, 0xD1#8]
  | .ldIX_atIX => [0xCF#8, 0xD2#8]
  | .ldIY_atIX => [0xCF#8, 0xD3#8]
  | .ldBA_atIY => [0xCF#8, 0xD8#8]
  | .ldHL_atIY => [0xCF#8, 0xD9#8]
  | .ldIX_atIY => [0xCF#8, 0xDA#8]
  | .ldIY_atIY => [0xCF#8, 0xDB#8]
  | .ldBA_atSPdd dd => [0xCF#8, 0x70#8, dd]
  | .ldHL_atSPdd dd => [0xCF#8, 0x71#8, dd]
  | .ldIX_atSPdd dd => [0xCF#8, 0x72#8, dd]
  | .ldIY_atSPdd dd => [0xCF#8, 0x73#8, dd]
  | .ld_athhll_BA hhll => [0xBC#8, lowByte hhll, highByte hhll]
  | .ld_athhll_HL hhll => [0xBD#8, lowByte hhll, highByte hhll]
  | .ld_athhll_IX hhll => [0xBE#8, lowByte hhll, highByte hhll]
  | .ld_athhll_IY hhll => [0xBF#8, lowByte hhll, highByte hhll]
  | .ld_athhll_SP hhll => [0xCF#8, 0x7C#8, lowByte hhll, highByte hhll]
  | .ld_atHL_BA => [0xCF#8, 0xC4#8]
  | .ld_atHL_HL => [0xCF#8, 0xC5#8]
  | .ld_atHL_IX => [0xCF#8, 0xC6#8]
  | .ld_atHL_IY => [0xCF#8, 0xC7#8]
  | .ld_atIX_BA => [0xCF#8, 0xD4#8]
  | .ld_atIX_HL => [0xCF#8, 0xD5#8]
  | .ld_atIX_IX => [0xCF#8, 0xD6#8]
  | .ld_atIX_IY => [0xCF#8, 0xD7#8]
  | .ld_atIY_BA => [0xCF#8, 0xDC#8]
  | .ld_atIY_HL => [0xCF#8, 0xDD#8]
  | .ld_atIY_IX => [0xCF#8, 0xDE#8]
  | .ld_atIY_IY => [0xCF#8, 0xDF#8]
  | .ld_atSPdd_BA dd => [0xCF#8, 0x74#8, dd]
  | .ld_atSPdd_HL dd => [0xCF#8, 0x75#8, dd]
  | .ld_atSPdd_IX dd => [0xCF#8, 0x76#8, dd]
  | .ld_atSPdd_IY dd => [0xCF#8, 0x77#8, dd]
  | .exBA_HL => [0xC8#8]
  | .exBA_IX => [0xC9#8]
  | .exBA_IY => [0xCA#8]
  | .exBA_SP => [0xCB#8]
  | .addA_A => [0x00#8]
  | .addA_B => [0x01#8]
  | .addA_imm nn => [0x02#8, nn]
  | .addA_atBRll ll => [0x04#8, ll]
  | .addA_athhll hhll => [0x05#8, lowByte hhll, highByte hhll]
  | .addA_atHL => [0x03#8]
  | .addA_atIX => [0x06#8]
  | .addA_atIY => [0x07#8]
  | .addA_atIXdd dd => [0xCE#8, 0x00#8, dd]
  | .addA_atIYdd dd => [0xCE#8, 0x01#8, dd]
  | .addA_atIXL => [0xCE#8, 0x02#8]
  | .addA_atIYL => [0xCE#8, 0x03#8]
  | .add_atHL_A => [0xCE#8, 0x04#8]
  | .add_atHL_imm nn => [0xCE#8, 0x05#8, nn]
  | .add_atHL_atIX => [0xCE#8, 0x06#8]
  | .add_atHL_atIY => [0xCE#8, 0x07#8]
  | .adcA_A => [0x08#8]
  | .adcA_B => [0x09#8]
  | .adcA_imm nn => [0x0A#8, nn]
  | .adcA_atBRll ll => [0x0C#8, ll]
  | .adcA_athhll hhll => [0x0D#8, lowByte hhll, highByte hhll]
  | .adcA_atHL => [0x0B#8]
  | .adcA_atIX => [0x0E#8]
  | .adcA_atIY => [0x0F#8]
  | .adcA_atIXdd dd => [0xCE#8, 0x08#8, dd]
  | .adcA_atIYdd dd => [0xCE#8, 0x09#8, dd]
  | .adcA_atIXL => [0xCE#8, 0x0A#8]
  | .adcA_atIYL => [0xCE#8, 0x0B#8]
  | .adc_atHL_A => [0xCE#8, 0x0C#8]
  | .adc_atHL_imm nn => [0xCE#8, 0x0D#8, nn]
  | .adc_atHL_atIX => [0xCE#8, 0x0E#8]
  | .adc_atHL_atIY => [0xCE#8, 0x0F#8]
  | .subA_A => [0x10#8]
  | .subA_B => [0x11#8]
  | .subA_imm nn => [0x12#8, nn]
  | .subA_atBRll ll => [0x14#8, ll]
  | .subA_athhll hhll => [0x15#8, lowByte hhll, highByte hhll]
  | .subA_atHL => [0x13#8]
  | .subA_atIX => [0x16#8]
  | .subA_atIY => [0x17#8]
  | .subA_atIXdd dd => [0xCE#8, 0x10#8, dd]
  | .subA_atIYdd dd => [0xCE#8, 0x11#8, dd]
  | .subA_atIXL => [0xCE#8, 0x12#8]
  | .subA_atIYL => [0xCE#8, 0x13#8]
  | .sub_atHL_A => [0xCE#8, 0x14#8]
  | .sub_atHL_imm nn => [0xCE#8, 0x15#8, nn]
  | .sub_atHL_atIX => [0xCE#8, 0x16#8]
  | .sub_atHL_atIY => [0xCE#8, 0x17#8]
  | .sbcA_A => [0x18#8]
  | .sbcA_B => [0x19#8]
  | .sbcA_imm nn => [0x1A#8, nn]
  | .sbcA_atBRll ll => [0x1C#8, ll]
  | .sbcA_athhll hhll => [0x1D#8, lowByte hhll, highByte hhll]
  | .sbcA_atHL => [0x1B#8]
  | .sbcA_atIX => [0x1E#8]
  | .sbcA_atIY => [0x1F#8]
  | .sbcA_atIXdd dd => [0xCE#8, 0x18#8, dd]
  | .sbcA_atIYdd dd => [0xCE#8, 0x19#8, dd]
  | .sbcA_atIXL => [0xCE#8, 0x1A#8]
  | .sbcA_atIYL => [0xCE#8, 0x1B#8]
  | .sbc_atHL_A => [0xCE#8, 0x1C#8]
  | .sbc_atHL_imm nn => [0xCE#8, 0x1D#8, nn]
  | .sbc_atHL_atIX => [0xCE#8, 0x1E#8]
  | .sbc_atHL_atIY => [0xCE#8, 0x1F#8]
  | .cpA_A => [0x30#8]
  | .cpA_B => [0x31#8]
  | .cpA_imm nn => [0x32#8, nn]
  | .cpA_atBRll ll => [0x34#8, ll]
  | .cpA_athhll hhll => [0x35#8, lowByte hhll, highByte hhll]
  | .cpA_atHL => [0x33#8]
  | .cpA_atIX => [0x36#8]
  | .cpA_atIY => [0x37#8]
  | .cpA_atIXdd dd => [0xCE#8, 0x30#8, dd]
  | .cpA_atIYdd dd => [0xCE#8, 0x31#8, dd]
  | .cpA_atIXL => [0xCE#8, 0x32#8]
  | .cpA_atIYL => [0xCE#8, 0x33#8]
  | .cpB_imm nn => [0xCE#8, 0xBC#8, nn]
  | .cpL_imm nn => [0xCE#8, 0xBD#8, nn]
  | .cpH_imm nn => [0xCE#8, 0xBE#8, nn]
  | .cpBR_imm hh => [0xCE#8, 0xBF#8, hh]
  | .cp_atBRll_imm ll nn => [0xDB#8, ll, nn]
  | .cp_atHL_A => [0xCE#8, 0x34#8]
  | .cp_atHL_imm nn => [0xCE#8, 0x35#8, nn]
  | .cp_atHL_atIX => [0xCE#8, 0x36#8]
  | .cp_atHL_atIY => [0xCE#8, 0x37#8]
  | .incA => [0x80#8]
  | .incB => [0x81#8]
  | .incL => [0x82#8]
  | .incH => [0x83#8]
  | .incBR => [0x84#8]
  | .inc_atBRll ll => [0x85#8, ll]
  | .inc_atHL => [0x86#8]
  | .decA => [0x88#8]
  | .decB => [0x89#8]
  | .decL => [0x8A#8]
  | .decH => [0x8B#8]
  | .decBR => [0x8C#8]
  | .dec_atBRll ll => [0x8D#8, ll]
  | .dec_atHL => [0x8E#8]
  | .negA => [0xCE#8, 0xA4#8]
  | .negB => [0xCE#8, 0xA5#8]
  | .neg_atBRll ll => [0xCE#8, 0xA6#8, ll]
  | .neg_atHL => [0xCE#8, 0xA7#8]
  | .mlt => [0xCE#8, 0xD8#8]
  | .div => [0xCE#8, 0xD9#8]
  | .andA_A => [0x20#8]
  | .andA_B => [0x21#8]
  | .andA_imm nn => [0x22#8, nn]
  | .andA_atBRll ll => [0x24#8, ll]
  | .andA_athhll hhll => [0x25#8, lowByte hhll, highByte hhll]
  | .andA_atHL => [0x23#8]
  | .andA_atIX => [0x26#8]
  | .andA_atIY => [0x27#8]
  | .andA_atIXdd dd => [0xCE#8, 0x20#8, dd]
  | .andA_atIYdd dd => [0xCE#8, 0x21#8, dd]
  | .andA_atIXL => [0xCE#8, 0x22#8]
  | .andA_atIYL => [0xCE#8, 0x23#8]
  | .andB_imm nn => [0xCE#8, 0xB0#8, nn]
  | .andL_imm nn => [0xCE#8, 0xB1#8, nn]
  | .andH_imm nn => [0xCE#8, 0xB2#8, nn]
  | .andSC_imm nn => [0x9C#8, nn]
  | .and_atBRll_imm ll nn => [0xD8#8, ll, nn]
  | .and_atHL_A => [0xCE#8, 0x24#8]
  | .and_atHL_imm nn => [0xCE#8, 0x25#8, nn]
  | .and_atHL_atIX => [0xCE#8, 0x26#8]
  | .and_atHL_atIY => [0xCE#8, 0x27#8]
  | .orA_A => [0x28#8]
  | .orA_B => [0x29#8]
  | .orA_imm nn => [0x2A#8, nn]
  | .orA_atBRll ll => [0x2C#8, ll]
  | .orA_athhll hhll => [0x2D#8, lowByte hhll, highByte hhll]
  | .orA_atHL => [0x2B#8]
  | .orA_atIX => [0x2E#8]
  | .orA_atIY => [0x2F#8]
  | .orA_atIXdd dd => [0xCE#8, 0x28#8, dd]
  | .orA_atIYdd dd => [0xCE#8, 0x29#8, dd]
  | .orA_atIXL => [0xCE#8, 0x2A#8]
  | .orA_atIYL => [0xCE#8, 0x2B#8]
  | .orB_imm nn => [0xCE#8, 0xB4#8, nn]
  | .orL_imm nn => [0xCE#8, 0xB5#8, nn]
  | .orH_imm nn => [0xCE#8, 0xB6#8, nn]
  | .orSC_imm nn => [0x9D#8, nn]
  | .or_atBRll_imm ll nn => [0xD9#8, ll, nn]
  | .or_atHL_A => [0xCE#8, 0x2C#8]
  | .or_atHL_imm nn => [0xCE#8, 0x2D#8, nn]
  | .or_atHL_atIX => [0xCE#8, 0x2E#8]
  | .or_atHL_atIY => [0xCE#8, 0x2F#8]
  | .xorA_A => [0x38#8]
  | .xorA_B => [0x39#8]
  | .xorA_imm nn => [0x3A#8, nn]
  | .xorA_atBRll ll => [0x3C#8, ll]
  | .xorA_athhll hhll => [0x3D#8, lowByte hhll, highByte hhll]
  | .xorA_atHL => [0x3B#8]
  | .xorA_atIX => [0x3E#8]
  | .xorA_atIY => [0x3F#8]
  | .xorA_atIXdd dd => [0xCE#8, 0x38#8, dd]
  | .xorA_atIYdd dd => [0xCE#8, 0x39#8, dd]
  | .xorA_atIXL => [0xCE#8, 0x3A#8]
  | .xorA_atIYL => [0xCE#8, 0x3B#8]
  | .xorB_imm nn => [0xCE#8, 0xB8#8, nn]
  | .xorL_imm nn => [0xCE#8, 0xB9#8, nn]
  | .xorH_imm nn => [0xCE#8, 0xBA#8, nn]
  | .xorSC_imm nn => [0x9E#8, nn]
  | .xor_atBRll_imm ll nn => [0xDA#8, ll, nn]
  | .xor_atHL_A => [0xCE#8, 0x3C#8]
  | .xor_atHL_imm nn => [0xCE#8, 0x3D#8, nn]
  | .xor_atHL_atIX => [0xCE#8, 0x3E#8]
  | .xor_atHL_atIY => [0xCE#8, 0x3F#8]
  | .bitA_B => [0x94#8]
  | .bitA_imm nn => [0x96#8, nn]
  | .bitB_imm nn => [0x97#8, nn]
  | .bit_atBRll_imm ll nn => [0xDC#8, ll, nn]
  | .bit_atHL_imm nn => [0x95#8, nn]
  | .cplA => [0xCE#8, 0xA0#8]
  | .cplB => [0xCE#8, 0xA1#8]
  | .cpl_atBRll ll => [0xCE#8, 0xA2#8, ll]
  | .cpl_atHL => [0xCE#8, 0xA3#8]
  | .addBA_BA => [0xCF#8, 0x00#8]
  | .addBA_HL => [0xCF#8, 0x01#8]
  | .addBA_IX => [0xCF#8, 0x02#8]
  | .addBA_IY => [0xCF#8, 0x03#8]
  | .addHL_BA => [0xCF#8, 0x20#8]
  | .addHL_HL => [0xCF#8, 0x21#8]
  | .addHL_IX => [0xCF#8, 0x22#8]
  | .addHL_IY => [0xCF#8, 0x23#8]
  | .adcBA_BA => [0xCF#8, 0x04#8]
  | .adcBA_HL => [0xCF#8, 0x05#8]
  | .adcBA_IX => [0xCF#8, 0x06#8]
  | .adcBA_IY => [0xCF#8, 0x07#8]
  | .adcHL_BA => [0xCF#8, 0x24#8]
  | .adcHL_HL => [0xCF#8, 0x25#8]
  | .adcHL_IX => [0xCF#8, 0x26#8]
  | .adcHL_IY => [0xCF#8, 0x27#8]
  | .subBA_BA => [0xCF#8, 0x08#8]
  | .subBA_HL => [0xCF#8, 0x09#8]
  | .subBA_IX => [0xCF#8, 0x0A#8]
  | .subBA_IY => [0xCF#8, 0x0B#8]
  | .subHL_BA => [0xCF#8, 0x28#8]
  | .subHL_HL => [0xCF#8, 0x29#8]
  | .subHL_IX => [0xCF#8, 0x2A#8]
  | .subHL_IY => [0xCF#8, 0x2B#8]
  | .sbcBA_BA => [0xCF#8, 0x0C#8]
  | .sbcBA_HL => [0xCF#8, 0x0D#8]
  | .sbcBA_IX => [0xCF#8, 0x0E#8]
  | .sbcBA_IY => [0xCF#8, 0x0F#8]
  | .sbcHL_BA => [0xCF#8, 0x2C#8]
  | .sbcHL_HL => [0xCF#8, 0x2D#8]
  | .sbcHL_IX => [0xCF#8, 0x2E#8]
  | .sbcHL_IY => [0xCF#8, 0x2F#8]
  | .cpBA_BA => [0xCF#8, 0x18#8]
  | .cpBA_HL => [0xCF#8, 0x19#8]
  | .cpBA_IX => [0xCF#8, 0x1A#8]
  | .cpBA_IY => [0xCF#8, 0x1B#8]
  | .cpHL_BA => [0xCF#8, 0x38#8]
  | .cpHL_HL => [0xCF#8, 0x39#8]
  | .cpHL_IX => [0xCF#8, 0x3A#8]
  | .cpHL_IY => [0xCF#8, 0x3B#8]
  | .addIX_BA => [0xCF#8, 0x40#8]
  | .addIX_HL => [0xCF#8, 0x41#8]
  | .addIY_BA => [0xCF#8, 0x42#8]
  | .addIY_HL => [0xCF#8, 0x43#8]
  | .addSP_BA => [0xCF#8, 0x44#8]
  | .addSP_HL => [0xCF#8, 0x45#8]
  | .subIX_BA => [0xCF#8, 0x48#8]
  | .subIX_HL => [0xCF#8, 0x49#8]
  | .subIY_BA => [0xCF#8, 0x4A#8]
  | .subIY_HL => [0xCF#8, 0x4B#8]
  | .subSP_BA => [0xCF#8, 0x4C#8]
  | .subSP_HL => [0xCF#8, 0x4D#8]
  | .cpSP_BA => [0xCF#8, 0x5C#8]
  | .cpSP_HL => [0xCF#8, 0x5D#8]
  | .addBA_imm mmnn => [0xC0#8, lowByte mmnn, highByte mmnn]
  | .addHL_imm mmnn => [0xC1#8, lowByte mmnn, highByte mmnn]
  | .addIX_imm mmnn => [0xC2#8, lowByte mmnn, highByte mmnn]
  | .addIY_imm mmnn => [0xC3#8, lowByte mmnn, highByte mmnn]
  | .subBA_imm mmnn => [0xD0#8, lowByte mmnn, highByte mmnn]
  | .subHL_imm mmnn => [0xD1#8, lowByte mmnn, highByte mmnn]
  | .subIX_imm mmnn => [0xD2#8, lowByte mmnn, highByte mmnn]
  | .subIY_imm mmnn => [0xD3#8, lowByte mmnn, highByte mmnn]
  | .cpBA_imm mmnn => [0xD4#8, lowByte mmnn, highByte mmnn]
  | .cpHL_imm mmnn => [0xD5#8, lowByte mmnn, highByte mmnn]
  | .cpIX_imm mmnn => [0xD6#8, lowByte mmnn, highByte mmnn]
  | .cpIY_imm mmnn => [0xD7#8, lowByte mmnn, highByte mmnn]
  | .adcBA_imm mmnn => [0xCF#8, 0x60#8, lowByte mmnn, highByte mmnn]
  | .adcHL_imm mmnn => [0xCF#8, 0x61#8, lowByte mmnn, highByte mmnn]
  | .sbcBA_imm mmnn => [0xCF#8, 0x62#8, lowByte mmnn, highByte mmnn]
  | .sbcHL_imm mmnn => [0xCF#8, 0x63#8, lowByte mmnn, highByte mmnn]
  | .addSP_imm mmnn => [0xCF#8, 0x68#8, lowByte mmnn, highByte mmnn]
  | .subSP_imm mmnn => [0xCF#8, 0x6A#8, lowByte mmnn, highByte mmnn]
  | .cpSP_imm mmnn => [0xCF#8, 0x6C#8, lowByte mmnn, highByte mmnn]
  | .incBA => [0x90#8]
  | .incHL => [0x91#8]
  | .incIX => [0x92#8]
  | .incIY => [0x93#8]
  | .incSP => [0x87#8]
  | .decBA => [0x98#8]
  | .decHL => [0x99#8]
  | .decIX => [0x9A#8]
  | .decIY => [0x9B#8]
  | .decSP => [0x8F#8]
  | .pack => [0xDE#8]
  | .upck => [0xDF#8]
  | .sep => [0xCE#8, 0xA8#8]
  | .rlA => [0xCE#8, 0x90#8]
  | .rlB => [0xCE#8, 0x91#8]
  | .rl_atBRll ll => [0xCE#8, 0x92#8, ll]
  | .rl_atHL => [0xCE#8, 0x93#8]
  | .rlcA => [0xCE#8, 0x94#8]
  | .rlcB => [0xCE#8, 0x95#8]
  | .rlc_atBRll ll => [0xCE#8, 0x96#8, ll]
  | .rlc_atHL => [0xCE#8, 0x97#8]
  | .rrA => [0xCE#8, 0x98#8]
  | .rrB => [0xCE#8, 0x99#8]
  | .rr_atBRll ll => [0xCE#8, 0x9A#8, ll]
  | .rr_atHL => [0xCE#8, 0x9B#8]
  | .rrcA => [0xCE#8, 0x9C#8]
  | .rrcB => [0xCE#8, 0x9D#8]
  | .rrc_atBRll ll => [0xCE#8, 0x9E#8, ll]
  | .rrc_atHL => [0xCE#8, 0x9F#8]
  | .slaA => [0xCE#8, 0x80#8]
  | .slaB => [0xCE#8, 0x81#8]
  | .sla_atBRll ll => [0xCE#8, 0x82#8, ll]
  | .sla_atHL => [0xCE#8, 0x83#8]
  | .sllA => [0xCE#8, 0x84#8]
  | .sllB => [0xCE#8, 0x85#8]
  | .sll_atBRll ll => [0xCE#8, 0x86#8, ll]
  | .sll_atHL => [0xCE#8, 0x87#8]
  | .sraA => [0xCE#8, 0x88#8]
  | .sraB => [0xCE#8, 0x89#8]
  | .sra_atBRll ll => [0xCE#8, 0x8A#8, ll]
  | .sra_atHL => [0xCE#8, 0x8B#8]
  | .srlA => [0xCE#8, 0x8C#8]
  | .srlB => [0xCE#8, 0x8D#8]
  | .srl_atBRll ll => [0xCE#8, 0x8E#8, ll]
  | .srl_atHL => [0xCE#8, 0x8F#8]
  | .pushA => [0xCF#8, 0xB0#8]
  | .pushB => [0xCF#8, 0xB1#8]
  | .pushL => [0xCF#8, 0xB2#8]
  | .pushH => [0xCF#8, 0xB3#8]
  | .pushBA => [0xA0#8]
  | .pushHL => [0xA1#8]
  | .pushIX => [0xA2#8]
  | .pushIY => [0xA3#8]
  | .pushBR => [0xA4#8]
  | .pushEP => [0xA5#8]
  | .pushIP => [0xA6#8]
  | .pushSC => [0xA7#8]
  | .pushALL => [0xCF#8, 0xB8#8]
  | .pushALE => [0xCF#8, 0xB9#8]
  | .popA => [0xCF#8, 0xB4#8]
  | .popB => [0xCF#8, 0xB5#8]
  | .popL => [0xCF#8, 0xB6#8]
  | .popH => [0xCF#8, 0xB7#8]
  | .popBA => [0xA8#8]
  | .popHL => [0xA9#8]
  | .popIX => [0xAA#8]
  | .popIY => [0xAB#8]
  | .popBR => [0xAC#8]
  | .popEP => [0xAD#8]
  | .popIP => [0xAE#8]
  | .popSC => [0xAF#8]
  | .popALL => [0xCF#8, 0xBC#8]
  | .popALE => [0xCF#8, 0xBD#8]
  | .jrs rr => [0xF1#8, rr]
  | .jrsC rr => [0xE4#8, rr]
  | .jrsNC rr => [0xE5#8, rr]
  | .jrsZ rr => [0xE6#8, rr]
  | .jrsNZ rr => [0xE7#8, rr]
  | .jrsLT rr => [0xCE#8, 0xE0#8, rr]
  | .jrsLE rr => [0xCE#8, 0xE1#8, rr]
  | .jrsGT rr => [0xCE#8, 0xE2#8, rr]
  | .jrsGE rr => [0xCE#8, 0xE3#8, rr]
  | .jrsV rr => [0xCE#8, 0xE4#8, rr]
  | .jrsNV rr => [0xCE#8, 0xE5#8, rr]
  | .jrsP rr => [0xCE#8, 0xE6#8, rr]
  | .jrsM rr => [0xCE#8, 0xE7#8, rr]
  | .jrsF0 rr => [0xCE#8, 0xE8#8, rr]
  | .jrsF1 rr => [0xCE#8, 0xE9#8, rr]
  | .jrsF2 rr => [0xCE#8, 0xEA#8, rr]
  | .jrsF3 rr => [0xCE#8, 0xEB#8, rr]
  | .jrsNF0 rr => [0xCE#8, 0xEC#8, rr]
  | .jrsNF1 rr => [0xCE#8, 0xED#8, rr]
  | .jrsNF2 rr => [0xCE#8, 0xEE#8, rr]
  | .jrsNF3 rr => [0xCE#8, 0xEF#8, rr]
  | .jrl qqrr => [0xF3#8, lowByte qqrr, highByte qqrr]
  | .jrlC qqrr => [0xEC#8, lowByte qqrr, highByte qqrr]
  | .jrlNC qqrr => [0xED#8, lowByte qqrr, highByte qqrr]
  | .jrlZ qqrr => [0xEE#8, lowByte qqrr, highByte qqrr]
  | .jrlNZ qqrr => [0xEF#8, lowByte qqrr, highByte qqrr]
  | .djrNZ rr => [0xF5#8, rr]
  | .jpHL => [0xF4#8]
  | .jp_atkk kk => [0xFD#8, kk]
  | .cars rr => [0xF0#8, rr]
  | .carsC rr => [0xE0#8, rr]
  | .carsNC rr => [0xE1#8, rr]
  | .carsZ rr => [0xE2#8, rr]
  | .carsNZ rr => [0xE3#8, rr]
  | .carsLT rr => [0xCE#8, 0xF0#8, rr]
  | .carsLE rr => [0xCE#8, 0xF1#8, rr]
  | .carsGT rr => [0xCE#8, 0xF2#8, rr]
  | .carsGE rr => [0xCE#8, 0xF3#8, rr]
  | .carsV rr => [0xCE#8, 0xF4#8, rr]
  | .carsNV rr => [0xCE#8, 0xF5#8, rr]
  | .carsP rr => [0xCE#8, 0xF6#8, rr]
  | .carsM rr => [0xCE#8, 0xF7#8, rr]
  | .carsF0 rr => [0xCE#8, 0xF8#8, rr]
  | .carsF1 rr => [0xCE#8, 0xF9#8, rr]
  | .carsF2 rr => [0xCE#8, 0xFA#8, rr]
  | .carsF3 rr => [0xCE#8, 0xFB#8, rr]
  | .carsNF0 rr => [0xCE#8, 0xFC#8, rr]
  | .carsNF1 rr => [0xCE#8, 0xFD#8, rr]
  | .carsNF2 rr => [0xCE#8, 0xFE#8, rr]
  | .carsNF3 rr => [0xCE#8, 0xFF#8, rr]
  | .carl qqrr => [0xF2#8, lowByte qqrr, highByte qqrr]
  | .carlC qqrr => [0xE8#8, lowByte qqrr, highByte qqrr]
  | .carlNC qqrr => [0xE9#8, lowByte qqrr, highByte qqrr]
  | .carlZ qqrr => [0xEA#8, lowByte qqrr, highByte qqrr]
  | .carlNZ qqrr => [0xEB#8, lowByte qqrr, highByte qqrr]
  | .call_athhll hhll => [0xFB#8, lowByte hhll, highByte hhll]
  | .ret => [0xF8#8]
  | .rete => [0xF9#8]
  | .rets => [0xFA#8]
  | .int_atkk kk => [0xFC#8, kk]
  | .nop => [0xFF#8]
  | .halt => [0xCE#8, 0xAE#8]
  | .slp => [0xCE#8, 0xAF#8]

end Sys2Proof
end

