-- ==== Sys2Proof/WellFormed.lean ====
section
/-! DEFINITION. Which instructions a CPU model has (30_encoding.md R110). Operand bytes need no check: every
operand value is legal (30_encoding.md R105). -/

namespace Sys2Proof

/-- What a CPU model must have for an instruction to exist on it (30_encoding.md R110). -/
inductive Needs where
  /-- every model has the instruction -/
  | nothing
  /-- the multiply and divide instructions: MODEL1 and MODEL3 -/
  | mulDiv
  /-- the instructions that name NB, EP, XP, YP, IP or ALE: MODEL2 and MODEL3 -/
  | banks
deriving DecidableEq, Repr

/-- `HasMulDiv` of 00_scope.md R3. -/
def CpuModel.hasMulDiv : CpuModel → Bool
  | .model0 => false
  | .model1 => true
  | .model2 => false
  | .model3 => true

/-- `HasBank` of 00_scope.md R3. -/
def CpuModel.hasBank : CpuModel → Bool
  | .model0 => false
  | .model1 => false
  | .model2 => true
  | .model3 => true

/-- What each instruction needs (30_encoding.md R110). -/
def Instr.needs : Instr → Needs
  | .mlt | .div => .mulDiv
  | .ldNB_imm _ | .ldEP_imm _ | .ldXP_imm _ | .ldYP_imm _ | .ldA_NB | .ldA_EP | .ldA_XP | .ldA_YP
  | .ldNB_A | .ldEP_A | .ldXP_A | .ldYP_A | .pushEP | .pushIP | .pushALE | .popEP | .popIP
  | .popALE => .banks
  | .ldA_A | .ldA_B | .ldA_L | .ldA_H | .ldB_A | .ldB_B | .ldB_L | .ldB_H | .ldL_A | .ldL_B
  | .ldL_L | .ldL_H | .ldH_A | .ldH_B | .ldH_L | .ldH_H | .ldA_BR | .ldA_SC | .ldBR_A | .ldSC_A
  | .ldA_imm _ | .ldB_imm _ | .ldL_imm _ | .ldH_imm _ | .ldBR_imm _ | .ldSC_imm _ | .ldA_atBRll _
  | .ldB_atBRll _ | .ldL_atBRll _ | .ldH_atBRll _ | .ldA_athhll _ | .ldB_athhll _ | .ldL_athhll _
  | .ldH_athhll _ | .ldA_atHL | .ldB_atHL | .ldL_atHL | .ldH_atHL | .ldA_atIX | .ldB_atIX
  | .ldL_atIX | .ldH_atIX | .ldA_atIY | .ldB_atIY | .ldL_atIY | .ldH_atIY | .ldA_atIXdd _
  | .ldB_atIXdd _ | .ldL_atIXdd _ | .ldH_atIXdd _ | .ldA_atIYdd _ | .ldB_atIYdd _ | .ldL_atIYdd _
  | .ldH_atIYdd _ | .ldA_atIXL | .ldB_atIXL | .ldL_atIXL | .ldH_atIXL | .ldA_atIYL | .ldB_atIYL
  | .ldL_atIYL | .ldH_atIYL | .ld_atBRll_A _ | .ld_atBRll_B _ | .ld_atBRll_L _ | .ld_atBRll_H _
  | .ld_athhll_A _ | .ld_athhll_B _ | .ld_athhll_L _ | .ld_athhll_H _ | .ld_atHL_A | .ld_atHL_B
  | .ld_atHL_L | .ld_atHL_H | .ld_atIX_A | .ld_atIX_B | .ld_atIX_L | .ld_atIX_H | .ld_atIY_A
  | .ld_atIY_B | .ld_atIY_L | .ld_atIY_H | .ld_atIXdd_A _ | .ld_atIXdd_B _ | .ld_atIXdd_L _
  | .ld_atIXdd_H _ | .ld_atIYdd_A _ | .ld_atIYdd_B _ | .ld_atIYdd_L _ | .ld_atIYdd_H _
  | .ld_atIXL_A | .ld_atIXL_B | .ld_atIXL_L | .ld_atIXL_H | .ld_atIYL_A | .ld_atIYL_B | .ld_atIYL_L
  | .ld_atIYL_H | .ld_atBRll_imm _ _ | .ld_atHL_imm _ | .ld_atIX_imm _ | .ld_atIY_imm _
  | .ld_atBRll_atHL _ | .ld_atBRll_atIX _ | .ld_atBRll_atIY _ | .ld_atHL_atBRll _ | .ld_atHL_atHL
  | .ld_atHL_atIX | .ld_atHL_atIY | .ld_atHL_atIXdd _ | .ld_atHL_atIYdd _ | .ld_atHL_atIXL
  | .ld_atHL_atIYL | .ld_atIX_atBRll _ | .ld_atIX_atHL | .ld_atIX_atIX | .ld_atIX_atIY
  | .ld_atIX_atIXdd _ | .ld_atIX_atIYdd _ | .ld_atIX_atIXL | .ld_atIX_atIYL | .ld_atIY_atBRll _
  | .ld_atIY_atHL | .ld_atIY_atIX | .ld_atIY_atIY | .ld_atIY_atIXdd _ | .ld_atIY_atIYdd _
  | .ld_atIY_atIXL | .ld_atIY_atIYL | .exA_B | .exA_atHL | .swapA | .swap_atHL | .ldBA_BA
  | .ldBA_HL | .ldBA_IX | .ldBA_IY | .ldHL_BA | .ldHL_HL | .ldHL_IX | .ldHL_IY | .ldIX_BA
  | .ldIX_HL | .ldIX_IX | .ldIX_IY | .ldIY_BA | .ldIY_HL | .ldIY_IX | .ldIY_IY | .ldBA_PC
  | .ldBA_SP | .ldHL_PC | .ldHL_SP | .ldIX_SP | .ldIY_SP | .ldSP_BA | .ldSP_HL | .ldSP_IX
  | .ldSP_IY | .ldBA_imm _ | .ldHL_imm _ | .ldIX_imm _ | .ldIY_imm _ | .ldSP_imm _ | .ldBA_athhll _
  | .ldHL_athhll _ | .ldIX_athhll _ | .ldIY_athhll _ | .ldSP_athhll _ | .ldBA_atHL | .ldHL_atHL
  | .ldIX_atHL | .ldIY_atHL | .ldBA_atIX | .ldHL_atIX | .ldIX_atIX | .ldIY_atIX | .ldBA_atIY
  | .ldHL_atIY | .ldIX_atIY | .ldIY_atIY | .ldBA_atSPdd _ | .ldHL_atSPdd _ | .ldIX_atSPdd _
  | .ldIY_atSPdd _ | .ld_athhll_BA _ | .ld_athhll_HL _ | .ld_athhll_IX _ | .ld_athhll_IY _
  | .ld_athhll_SP _ | .ld_atHL_BA | .ld_atHL_HL | .ld_atHL_IX | .ld_atHL_IY | .ld_atIX_BA
  | .ld_atIX_HL | .ld_atIX_IX | .ld_atIX_IY | .ld_atIY_BA | .ld_atIY_HL | .ld_atIY_IX | .ld_atIY_IY
  | .ld_atSPdd_BA _ | .ld_atSPdd_HL _ | .ld_atSPdd_IX _ | .ld_atSPdd_IY _ | .exBA_HL | .exBA_IX
  | .exBA_IY | .exBA_SP | .addA_A | .addA_B | .addA_imm _ | .addA_atBRll _ | .addA_athhll _
  | .addA_atHL | .addA_atIX | .addA_atIY | .addA_atIXdd _ | .addA_atIYdd _ | .addA_atIXL
  | .addA_atIYL | .add_atHL_A | .add_atHL_imm _ | .add_atHL_atIX | .add_atHL_atIY | .adcA_A
  | .adcA_B | .adcA_imm _ | .adcA_atBRll _ | .adcA_athhll _ | .adcA_atHL | .adcA_atIX | .adcA_atIY
  | .adcA_atIXdd _ | .adcA_atIYdd _ | .adcA_atIXL | .adcA_atIYL | .adc_atHL_A | .adc_atHL_imm _
  | .adc_atHL_atIX | .adc_atHL_atIY | .subA_A | .subA_B | .subA_imm _ | .subA_atBRll _
  | .subA_athhll _ | .subA_atHL | .subA_atIX | .subA_atIY | .subA_atIXdd _ | .subA_atIYdd _
  | .subA_atIXL | .subA_atIYL | .sub_atHL_A | .sub_atHL_imm _ | .sub_atHL_atIX | .sub_atHL_atIY
  | .sbcA_A | .sbcA_B | .sbcA_imm _ | .sbcA_atBRll _ | .sbcA_athhll _ | .sbcA_atHL | .sbcA_atIX
  | .sbcA_atIY | .sbcA_atIXdd _ | .sbcA_atIYdd _ | .sbcA_atIXL | .sbcA_atIYL | .sbc_atHL_A
  | .sbc_atHL_imm _ | .sbc_atHL_atIX | .sbc_atHL_atIY | .cpA_A | .cpA_B | .cpA_imm _
  | .cpA_atBRll _ | .cpA_athhll _ | .cpA_atHL | .cpA_atIX | .cpA_atIY | .cpA_atIXdd _
  | .cpA_atIYdd _ | .cpA_atIXL | .cpA_atIYL | .cpB_imm _ | .cpL_imm _ | .cpH_imm _ | .cpBR_imm _
  | .cp_atBRll_imm _ _ | .cp_atHL_A | .cp_atHL_imm _ | .cp_atHL_atIX | .cp_atHL_atIY | .incA
  | .incB | .incL | .incH | .incBR | .inc_atBRll _ | .inc_atHL | .decA | .decB | .decL | .decH
  | .decBR | .dec_atBRll _ | .dec_atHL | .negA | .negB | .neg_atBRll _ | .neg_atHL | .andA_A
  | .andA_B | .andA_imm _ | .andA_atBRll _ | .andA_athhll _ | .andA_atHL | .andA_atIX | .andA_atIY
  | .andA_atIXdd _ | .andA_atIYdd _ | .andA_atIXL | .andA_atIYL | .andB_imm _ | .andL_imm _
  | .andH_imm _ | .andSC_imm _ | .and_atBRll_imm _ _ | .and_atHL_A | .and_atHL_imm _
  | .and_atHL_atIX | .and_atHL_atIY | .orA_A | .orA_B | .orA_imm _ | .orA_atBRll _ | .orA_athhll _
  | .orA_atHL | .orA_atIX | .orA_atIY | .orA_atIXdd _ | .orA_atIYdd _ | .orA_atIXL | .orA_atIYL
  | .orB_imm _ | .orL_imm _ | .orH_imm _ | .orSC_imm _ | .or_atBRll_imm _ _ | .or_atHL_A
  | .or_atHL_imm _ | .or_atHL_atIX | .or_atHL_atIY | .xorA_A | .xorA_B | .xorA_imm _
  | .xorA_atBRll _ | .xorA_athhll _ | .xorA_atHL | .xorA_atIX | .xorA_atIY | .xorA_atIXdd _
  | .xorA_atIYdd _ | .xorA_atIXL | .xorA_atIYL | .xorB_imm _ | .xorL_imm _ | .xorH_imm _
  | .xorSC_imm _ | .xor_atBRll_imm _ _ | .xor_atHL_A | .xor_atHL_imm _ | .xor_atHL_atIX
  | .xor_atHL_atIY | .bitA_B | .bitA_imm _ | .bitB_imm _ | .bit_atBRll_imm _ _ | .bit_atHL_imm _
  | .cplA | .cplB | .cpl_atBRll _ | .cpl_atHL | .addBA_BA | .addBA_HL | .addBA_IX | .addBA_IY
  | .addHL_BA | .addHL_HL | .addHL_IX | .addHL_IY | .adcBA_BA | .adcBA_HL | .adcBA_IX | .adcBA_IY
  | .adcHL_BA | .adcHL_HL | .adcHL_IX | .adcHL_IY | .subBA_BA | .subBA_HL | .subBA_IX | .subBA_IY
  | .subHL_BA | .subHL_HL | .subHL_IX | .subHL_IY | .sbcBA_BA | .sbcBA_HL | .sbcBA_IX | .sbcBA_IY
  | .sbcHL_BA | .sbcHL_HL | .sbcHL_IX | .sbcHL_IY | .cpBA_BA | .cpBA_HL | .cpBA_IX | .cpBA_IY
  | .cpHL_BA | .cpHL_HL | .cpHL_IX | .cpHL_IY | .addIX_BA | .addIX_HL | .addIY_BA | .addIY_HL
  | .addSP_BA | .addSP_HL | .subIX_BA | .subIX_HL | .subIY_BA | .subIY_HL | .subSP_BA | .subSP_HL
  | .cpSP_BA | .cpSP_HL | .addBA_imm _ | .addHL_imm _ | .addIX_imm _ | .addIY_imm _ | .subBA_imm _
  | .subHL_imm _ | .subIX_imm _ | .subIY_imm _ | .cpBA_imm _ | .cpHL_imm _ | .cpIX_imm _
  | .cpIY_imm _ | .adcBA_imm _ | .adcHL_imm _ | .sbcBA_imm _ | .sbcHL_imm _ | .addSP_imm _
  | .subSP_imm _ | .cpSP_imm _ | .incBA | .incHL | .incIX | .incIY | .incSP | .decBA | .decHL
  | .decIX | .decIY | .decSP | .pack | .upck | .sep | .rlA | .rlB | .rl_atBRll _ | .rl_atHL | .rlcA
  | .rlcB | .rlc_atBRll _ | .rlc_atHL | .rrA | .rrB | .rr_atBRll _ | .rr_atHL | .rrcA | .rrcB
  | .rrc_atBRll _ | .rrc_atHL | .slaA | .slaB | .sla_atBRll _ | .sla_atHL | .sllA | .sllB
  | .sll_atBRll _ | .sll_atHL | .sraA | .sraB | .sra_atBRll _ | .sra_atHL | .srlA | .srlB
  | .srl_atBRll _ | .srl_atHL | .pushA | .pushB | .pushL | .pushH | .pushBA | .pushHL | .pushIX
  | .pushIY | .pushBR | .pushSC | .pushALL | .popA | .popB | .popL | .popH | .popBA | .popHL
  | .popIX | .popIY | .popBR | .popSC | .popALL | .jrs _ | .jrsC _ | .jrsNC _ | .jrsZ _ | .jrsNZ _
  | .jrsLT _ | .jrsLE _ | .jrsGT _ | .jrsGE _ | .jrsV _ | .jrsNV _ | .jrsP _ | .jrsM _ | .jrsF0 _
  | .jrsF1 _ | .jrsF2 _ | .jrsF3 _ | .jrsNF0 _ | .jrsNF1 _ | .jrsNF2 _ | .jrsNF3 _ | .jrl _
  | .jrlC _ | .jrlNC _ | .jrlZ _ | .jrlNZ _ | .djrNZ _ | .jpHL | .jp_atkk _ | .cars _ | .carsC _
  | .carsNC _ | .carsZ _ | .carsNZ _ | .carsLT _ | .carsLE _ | .carsGT _ | .carsGE _ | .carsV _
  | .carsNV _ | .carsP _ | .carsM _ | .carsF0 _ | .carsF1 _ | .carsF2 _ | .carsF3 _ | .carsNF0 _
  | .carsNF1 _ | .carsNF2 _ | .carsNF3 _ | .carl _ | .carlC _ | .carlNC _ | .carlZ _ | .carlNZ _
  | .call_athhll _ | .ret | .rete | .rets | .int_atkk _ | .nop | .halt | .slp => .nothing

/-- `i.wellFormed m`: CPU model `m` has instruction `i` (30_encoding.md R110). -/
def Instr.wellFormed (i : Instr) (m : CpuModel) : Bool :=
  match i.needs with
  | .nothing => true
  | .mulDiv => m.hasMulDiv
  | .banks => m.hasBank

end Sys2Proof
end

