-- ==== Sys2Proof/Machine/State.lean ====
section
/-! DEFINITION. The state of the S1C88 core: the registers of 10_state.md R10, the hidden state of R33, memory,
the input pins of 60_exceptions.md R604, and the reasons a step can stop. -/

namespace Sys2Proof.Machine

/-- `RunState` of 10_state.md R33(a). -/
inductive RunState where
  /-- the program execution state -/
  | running
  /-- stopped by HALT (60_exceptions.md R630) -/
  | halted
  /-- stopped by SLP (60_exceptions.md R631) -/
  | sleeping
deriving DecidableEq, Repr

/-- The levels the host drives during one step (00_scope.md R4, 60_exceptions.md R604; log 6). -/
structure Pins where
  /-- `ResetLine`: SR is LOW, or went HIGH at this boundary (log 8) -/
  reset : Bool
  /-- `NmiEdge`: NMI fell since the last step -/
  nmiEdge : Bool
  /-- `IrqLevel(3)`: IRQ3 is LOW -/
  irq3 : Bool
  /-- `IrqLevel(2)`: IRQ2 is LOW -/
  irq2 : Bool
  /-- `IrqLevel(1)`: IRQ1 is LOW -/
  irq1 : Bool
  /-- `Imask`: IMASK is LOW -/
  imask : Bool
  /-- `IrqVector`: the vector address the requesting peripheral supplies -/
  irqVector : Byte
  /-- F0 of CC (10_state.md R19) -/
  f0 : Bool
  /-- F1 of CC -/
  f1 : Bool
  /-- F2 of CC -/
  f2 : Bool
  /-- F3 of CC -/
  f3 : Bool
  /-- SPP0 to SPP7, the stack page (10_state.md R32) -/
  spp : Byte
deriving DecidableEq, Repr

/-- No event and every level at 0 (log 6). -/
def Pins.quiet : Pins where
  reset := false
  nmiEdge := false
  irq3 := false
  irq2 := false
  irq1 := false
  imask := false
  irqVector := 0#8
  f0 := false
  f1 := false
  f2 := false
  f3 := false
  spp := 0#8

/-- The machine. `nb`, `cb`, `ep`, `xp`, `yp` have a meaning on MODEL2 and MODEL3 only (10_state.md R35;
log 16). -/
structure State where
  /-- A (10_state.md R11) -/
  a : Byte
  /-- B (R11) -/
  b : Byte
  /-- L, the low half of HL (R13) -/
  l : Byte
  /-- H, the high half of HL (R13) -/
  h : Byte
  /-- BR, the base register (R17) -/
  br : Byte
  /-- SC = I1 I0 U D N V C Z (R20) -/
  sc : Byte
  /-- NB, the new code bank (R28) -/
  nb : Byte
  /-- CB, the code bank (R29) -/
  cb : Byte
  /-- EP, the expand page (R30) -/
  ep : Byte
  /-- XP, the page of IX (R31) -/
  xp : Byte
  /-- YP, the page of IY (R31) -/
  yp : Byte
  /-- IX (R14) -/
  ix : Word
  /-- IY (R14) -/
  iy : Word
  /-- SP (R16) -/
  sp : Word
  /-- PC, a logical address (R15) -/
  pc : Word
  /-- the hidden run state (R33(a)) -/
  runState : RunState
  /-- `InhibitInt` (R33(b)) -/
  inhibitInt : Bool
  /-- `NmiPending` (R33(c)) -/
  nmiPending : Bool
  /-- memory by physical address, in the form of `Memory.wf` -/
  mem : List Host.Cell
  /-- the CPU model, constant over a run (00_scope.md R3; log 5) -/
  model : CpuModel
  /-- the MODE pin, constant over a run (00_scope.md R3; log 5) -/
  mode : PinMode
  /-- the input levels of the step in progress -/
  pins : Pins
  /-- the model's own: the input levels of the coming steps, next first (log 6) -/
  env : List Pins
  /-- the model's own: how many free values have been used (log 15) -/
  freeIdx : Nat
  /-- the model's own: physical address and old byte of the last store of the instruction just executed, while
  the prefetched byte is still to be used (70_reset_and_hazards.md R671; logs 14, 15) -/
  lateStore : Option (Nat × Byte)
deriving DecidableEq, Repr

/-- Why the machine is stuck. The core has no fault of its own (60_exceptions.md R624). -/
inductive Fault where
  /-- Raised by `step` on a code that the opcode maps leave undefined (30_encoding.md R109, 93 U1). Safe: the
  model makes no further step. -/
  | undefinedCode (e : DecodeError)
  /-- Raised by the meaning of an instruction that the CPU model lacks (30_encoding.md R110, 93 U2). Safe: the
  model makes no further step. -/
  | absentOnModel (m : CpuModel)
deriving DecidableEq, Repr

/-- Why there is no meaning. -/
inductive Refusal where
  /-- Raised by `exec` for an instruction of the table that has no meaning yet. Safe. -/
  | notModelled (mnemonic : String)
deriving DecidableEq, Repr

/-- What a step or a meaning answers. -/
abbrev Result := Host.Outcome State Fault Refusal

/-- The machine right after reset (10_state.md R55): SC = C0H, NB = CB = 01H, EP = XP = YP = 00H, running, no
interrupt held off or pending, PC loaded from the reset vector of a memory in which nothing is listed. The
registers that R55 calls undefined hold 0 here (DESIGN CHOICE, unsafe; log 1); the CPU is a MODEL3 in maximum mode
(DESIGN CHOICE; log 5); the inputs are quiet (DESIGN CHOICE; log 6). -/
def State.reset : State where
  a := 0#8
  b := 0#8
  l := 0#8
  h := 0#8
  br := 0#8
  sc := 0xC0#8
  nb := 0x01#8
  cb := 0x01#8
  ep := 0x00#8
  xp := 0x00#8
  yp := 0x00#8
  ix := 0#16
  iy := 0#16
  sp := 0#16
  pc := 0#16
  runState := .running
  inhibitInt := false
  nmiPending := false
  mem := []
  model := .model3
  mode := .maximum
  pins := Pins.quiet
  env := []
  freeIdx := 0
  lateStore := none

end Sys2Proof.Machine
end

