-- ==== Sys2Proof/Machine/Memory.lean ====
section
/-! DEFINITION. Memory as a list of (address, byte) pairs, and the physical addresses of program bytes, data bytes
and vectors (20_memory.md R60 to R73). -/

namespace Sys2Proof.Machine

/-- What an address reads as that nothing has written (DESIGN CHOICE, unsafe; log 3). -/
def Memory.unlisted : Byte := 0x00#8

/-- `MemRead(a, 1)` of 20_memory.md R70. -/
def Memory.read : List Host.Cell → Nat → Byte
  | [], _ => Memory.unlisted
  | (k, v) :: rest, a => if k = a then v else Memory.read rest a

/-- The list without address `a`. -/
def Memory.erase : List Host.Cell → Nat → List Host.Cell
  | [], _ => []
  | (k, v) :: rest, a => if k = a then Memory.erase rest a else (k, v) :: Memory.erase rest a

/-- The list with the pair (a, v) before the first larger address. -/
def Memory.insert : List Host.Cell → Nat → Byte → List Host.Cell
  | [], a, v => [(a, v)]
  | (k, w) :: rest, a, v =>
    if a < k then (a, v) :: (k, w) :: rest else (k, w) :: Memory.insert rest a v

/-- `MemWrite(a, 1, v)` of 20_memory.md R70, keeping the canonical form: a byte equal to what an unlisted address
reads as is not listed. -/
def Memory.write (m : List Host.Cell) (a : Nat) (v : Byte) : List Host.Cell :=
  if v = Memory.unlisted then Memory.erase m a else Memory.insert (Memory.erase m a) a v

/-- The canonical form: addresses strictly rising, no entry equal to what an unlisted address reads as. -/
def Memory.wf : List Host.Cell → Bool
  | [] => true
  | [(_, v)] => v != Memory.unlisted
  | (k, v) :: (k', v') :: rest =>
    decide (k < k') && (v != Memory.unlisted) && Memory.wf ((k', v') :: rest)

/-- `HasBank` of 00_scope.md R3. -/
def State.hasBank (s : State) : Bool := s.model.hasBank

/-- `HasMulDiv` of 00_scope.md R3. -/
def State.hasMulDiv (s : State) : Bool := s.model.hasMulDiv

/-- `MaxMode` of 00_scope.md R3. -/
def State.maxMode (s : State) : Bool := s.hasBank && decide (s.mode = .maximum)

/-- How many physical addresses there are: 24 bits when `HasBank`, else 16 (20_memory.md R60, 10_state.md R35). -/
def State.addressSpace (s : State) : Nat := if s.hasBank then 2 ^ 24 else 2 ^ 16

/-- `Prog(pc)` of 20_memory.md R63: the common area is bank 0, the bank area is the 32K-byte bank CB. -/
def State.progAddr (s : State) (pc : Word) : Nat :=
  if s.hasBank then
    if pc.msb then s.cb.toNat * 0x8000 + pc.toNat % 0x8000 else pc.toNat
  else pc.toNat

/-- `Data(page, off)` of 20_memory.md R66. -/
def State.dataAddr (s : State) (page : Byte) (off : Word) : Nat :=
  if s.hasBank then page.toNat * 0x10000 + off.toNat else off.toNat

/-- The byte at a physical address. -/
def State.readMem (s : State) (addr : Nat) : Byte := Memory.read s.mem addr

/-- Stores a byte at a physical address; the store is remembered for the prefetch of the next first opcode
(70_reset_and_hazards.md R671; log 14). -/
def State.writeMem (s : State) (addr : Nat) (v : Byte) : State :=
  { s with mem := Memory.write s.mem addr v, lateStore := some (addr, Memory.read s.mem addr) }

/-- `Vector(k)` of 20_memory.md R69, page 0 whatever the page registers hold; for k = FFH the high byte comes
from 000100H (92 D26; log 18). -/
def State.vector (s : State) (k : Byte) : Word :=
  word16 (s.readMem (k.toNat + 1)) (s.readMem k.toNat)

end Sys2Proof.Machine
end

