-- ==== Sys2Proof/Machine/Flags.lean ====
section
/-! DEFINITION. The flags of SC (10_state.md R20 to R27) and every arithmetic function that computes flags
(10_state.md R40 to R50). Results are computed on integers and narrowed at the end. -/

namespace Sys2Proof.Machine

/-- SC.Z, bit 0 (10_state.md R20). -/
def State.flagZ (s : State) : Bool := s.sc.getLsbD 0

/-- SC.C, bit 1. -/
def State.flagC (s : State) : Bool := s.sc.getLsbD 1

/-- SC.V, bit 2. -/
def State.flagV (s : State) : Bool := s.sc.getLsbD 2

/-- SC.N, bit 3. -/
def State.flagN (s : State) : Bool := s.sc.getLsbD 3

/-- SC.D, bit 4. -/
def State.flagD (s : State) : Bool := s.sc.getLsbD 4

/-- SC.U, bit 5. -/
def State.flagU (s : State) : Bool := s.sc.getLsbD 5

/-- `2*I1 + I0`, the interrupt mask level, bits 7 and 6 (10_state.md R27). -/
def State.maskLevel (s : State) : Nat := (s.sc.extractLsb' 6 2).toNat

/-- The flags that an instruction writes; `none` leaves a flag as it was. -/
structure FlagWrite where
  n : Option Bool := none
  v : Option Bool := none
  c : Option Bool := none
  z : Option Bool := none
deriving DecidableEq, Repr

/-- SC with the written flags replaced; I1, I0, U, D are kept (10_state.md R20). -/
def flagsInto (sc : Byte) (f : FlagWrite) : Byte :=
  sc.extractLsb' 4 4 ++ BitVec.ofBool (f.n.getD (sc.getLsbD 3)) ++ BitVec.ofBool (f.v.getD (sc.getLsbD 2))
    ++ BitVec.ofBool (f.c.getD (sc.getLsbD 1)) ++ BitVec.ofBool (f.z.getD (sc.getLsbD 0))

/-- Writes flags of SC as the result of an operation. -/
def State.writeFlags (s : State) (f : FlagWrite) : State := { s with sc := flagsInto s.sc f }

/-- A result and the four flags that go with it (10_state.md, "ALU helper functions"). -/
structure Alu (w : Nat) where
  res : BitVec w
  n : Bool
  v : Bool
  c : Bool
  z : Bool
deriving DecidableEq, Repr

/-- All four flags of an ALU result. -/
def allFlags {w : Nat} (r : Alu w) : FlagWrite where
  n := some r.n
  v := some r.v
  c := some r.c
  z := some r.z

/-- Whether an integer is outside the signed range of `w` bits. -/
def signedOverflow (w : Nat) (x : Int) : Bool := decide (x < -2 ^ (w - 1) ∨ 2 ^ (w - 1) ≤ x)

/-- `Add8bin` for w = 8 (10_state.md R40), `Add16` for w = 16 (R48). -/
def addBin {w : Nat} (x y : BitVec w) (cin : Bool) : Alu w :=
  let sum := x.toNat + y.toNat + cin.toNat
  let res := BitVec.ofNat w sum
  { res := res
    n := res.msb
    v := signedOverflow w (x.toInt + y.toInt + (cin.toNat : Int))
    c := decide (2 ^ w ≤ sum)
    z := decide (res = 0#w) }

/-- `Sub8bin` for w = 8 (10_state.md R41), `Sub16` for w = 16 (R49); `bin` is the borrow. -/
def subBin {w : Nat} (x y : BitVec w) (bin : Bool) : Alu w :=
  let diff : Int := (x.toNat : Int) - (y.toNat : Int) - (bin.toNat : Int)
  let res := BitVec.ofInt w diff
  { res := res
    n := res.msb
    v := signedOverflow w (x.toInt - y.toInt - (bin.toNat : Int))
    c := decide (diff < 0)
    z := decide (res = 0#w) }

/-- The units digit of a BCD byte. -/
def lowDigit (x : Byte) : Nat := x.toNat % 16

/-- The tens digit of a BCD byte. -/
def highDigit (x : Byte) : Nat := x.toNat / 16

/-- One decimal digit of a sum: the digit and the carry out (10_state.md R42). -/
def digitSum (x y k : Nat) : Nat × Bool :=
  if 10 ≤ x + y + k then (x + y + k - 10, true) else (x + y + k, false)

/-- One decimal digit of a difference: the digit and the borrow out (10_state.md R43). -/
def digitDiff (x y k : Nat) : Nat × Bool :=
  if x < y + k then (x + 10 - (y + k), true) else (x - (y + k), false)

/-- The result of a decimal or unpacked decimal operation: N = V = 0, Z from the result. -/
def decimalAlu (res : Byte) (c : Bool) : Alu 8 where
  res := res
  n := false
  v := false
  c := c
  z := decide (res = 0#8)

/-- `Add8dec` (10_state.md R42), for operands whose digits are all at most 9. -/
def addDec (x y : Byte) (cin : Bool) : Alu 8 :=
  let lo := digitSum (lowDigit x) (lowDigit y) cin.toNat
  let hi := digitSum (highDigit x) (highDigit y) lo.2.toNat
  decimalAlu (BitVec.ofNat 8 (16 * hi.1 + lo.1)) hi.2

/-- `Sub8dec` (10_state.md R43), for operands whose digits are all at most 9. -/
def subDec (x y : Byte) (bin : Bool) : Alu 8 :=
  let lo := digitDiff (lowDigit x) (lowDigit y) bin.toNat
  let hi := digitDiff (highDigit x) (highDigit y) lo.2.toNat
  decimalAlu (BitVec.ofNat 8 (16 * hi.1 + lo.1)) hi.2

/-- A 4-bit result as the byte that unpack mode delivers: bits 7 to 4 are 0 (10_state.md R44). -/
def unpackedAlu (r : Alu 4) : Alu 8 where
  res := r.res.zeroExtend 8
  n := r.n
  v := r.v
  c := r.c
  z := r.z

/-- Bits 3 to 0 of a byte. -/
def lowNibble (x : Byte) : BitVec 4 := x.extractLsb' 0 4

/-- Bits 7 to 4 of a byte. -/
def highNibble (x : Byte) : BitVec 4 := x.extractLsb' 4 4

/-- `Add8unp` (10_state.md R44). -/
def addUnp (x y : Byte) (cin : Bool) : Alu 8 := unpackedAlu (addBin (lowNibble x) (lowNibble y) cin)

/-- `Sub8unp` (10_state.md R45). -/
def subUnp (x y : Byte) (bin : Bool) : Alu 8 := unpackedAlu (subBin (lowNibble x) (lowNibble y) bin)

/-- One-digit decimal addition, D = U = 1 (10_state.md R46; log 12). -/
def addDecUnp (x y : Byte) (cin : Bool) : Alu 8 :=
  let lo := digitSum (lowDigit x) (lowDigit y) cin.toNat
  decimalAlu (BitVec.ofNat 8 lo.1) lo.2

/-- One-digit decimal subtraction, D = U = 1 (10_state.md R46; log 12). -/
def subDecUnp (x y : Byte) (bin : Bool) : Alu 8 :=
  let lo := digitDiff (lowDigit x) (lowDigit y) bin.toNat
  decimalAlu (BitVec.ofNat 8 lo.1) lo.2

/-- The arithmetic that D and U select (10_state.md R46). -/
inductive AluMode where
  | binary
  | decimal
  | unpacked
  | unpackedDecimal
deriving DecidableEq, Repr

/-- The mode that SC selects (10_state.md R46). -/
def State.aluMode (s : State) : AluMode :=
  match s.flagU, s.flagD with
  | false, false => .binary
  | false, true => .decimal
  | true, false => .unpacked
  | true, true => .unpackedDecimal

/-- Whether every digit that takes part is a decimal digit where the mode asks for one (10_state.md R42, R46,
93 U6). -/
def digitsValid (mode : AluMode) (x y : Byte) : Bool :=
  match mode with
  | .binary => true
  | .unpacked => true
  | .decimal => decide (lowDigit x ≤ 9 ∧ highDigit x ≤ 9 ∧ lowDigit y ≤ 9 ∧ highDigit y ≤ 9)
  | .unpackedDecimal => decide (lowDigit x ≤ 9 ∧ lowDigit y ≤ 9)

/-- The result on a digit above 9: free result byte, C and Z, N = V = 0 (10_state.md R42, 93 U6). In unpack mode
bits 7 to 4 of the result are 0 all the same (10_state.md R26, 42_alu8_arith.md R250; log 11). -/
def freeDecimal (mode : AluMode) (idx : Nat) : Alu 8 where
  res := if mode = .unpackedDecimal then Config.bcdResult idx &&& 0x0F#8 else Config.bcdResult idx
  n := false
  v := false
  c := Config.bcdCarry idx
  z := Config.bcdZero idx

/-- `Add8` (10_state.md R46); `idx` picks the free value where one is needed. -/
def add8 (mode : AluMode) (idx : Nat) (x y : Byte) (cin : Bool) : Alu 8 :=
  if digitsValid mode x y then
    match mode with
    | .binary => addBin x y cin
    | .decimal => addDec x y cin
    | .unpacked => addUnp x y cin
    | .unpackedDecimal => addDecUnp x y cin
  else freeDecimal mode idx

/-- `Sub8` (10_state.md R46); `idx` picks the free value where one is needed. -/
def sub8 (mode : AluMode) (idx : Nat) (x y : Byte) (bin : Bool) : Alu 8 :=
  if digitsValid mode x y then
    match mode with
    | .binary => subBin x y bin
    | .decimal => subDec x y bin
    | .unpacked => subUnp x y bin
    | .unpackedDecimal => subDecUnp x y bin
  else freeDecimal mode idx

/-- `Logic8` (10_state.md R47): N and Z; V and C are not written. -/
def logicFlags (res : Byte) : FlagWrite where
  n := some res.msb
  z := some (decide (res = 0#8))

/-- The flags of `IncDec` (10_state.md R50): Z only. -/
def zeroFlag {w : Nat} (res : BitVec w) : FlagWrite where
  z := some (decide (res = 0#w))

/-- The eight shifts and rotates (46_rotate_shift.md R470 to R493). -/
inductive ShiftKind where
  | rl
  | rlc
  | rr
  | rrc
  | sla
  | sll
  | sra
  | srl
deriving DecidableEq, Repr

/-- The result of a shift or rotate of `x`, with SC.C = `c` before it. -/
def shiftResult (k : ShiftKind) (x : Byte) (c : Bool) : Byte :=
  match k with
  | .rl => x.extractLsb' 0 7 ++ BitVec.ofBool c
  | .rlc => x.extractLsb' 0 7 ++ BitVec.ofBool x.msb
  | .rr => BitVec.ofBool c ++ x.extractLsb' 1 7
  | .rrc => BitVec.ofBool (x.getLsbD 0) ++ x.extractLsb' 1 7
  | .sla => x.extractLsb' 0 7 ++ 0#1
  | .sll => x.extractLsb' 0 7 ++ 0#1
  | .sra => BitVec.ofBool x.msb ++ x.extractLsb' 1 7
  | .srl => 0#1 ++ x.extractLsb' 1 7

/-- The bit shifted out, which C receives. -/
def shiftOut (k : ShiftKind) (x : Byte) : Bool :=
  match k with
  | .rl => x.msb
  | .rlc => x.msb
  | .rr => x.getLsbD 0
  | .rrc => x.getLsbD 0
  | .sla => x.msb
  | .sll => x.msb
  | .sra => x.getLsbD 0
  | .srl => x.getLsbD 0

/-- V after a shift: SLA sets it to bit 7 xor bit 6, SRA resets it, the others leave it
(46_rotate_shift.md R470 to R493). -/
def shiftV (k : ShiftKind) (x : Byte) : Option Bool :=
  match k with
  | .sla => some (x.msb ^^ x.getLsbD 6)
  | .sra => some false
  | .rl => none
  | .rlc => none
  | .rr => none
  | .rrc => none
  | .sll => none
  | .srl => none

/-- The flags of a shift or rotate. -/
def shiftFlags (k : ShiftKind) (x : Byte) (c : Bool) : FlagWrite where
  n := some (shiftResult k x c).msb
  v := shiftV k x
  c := some (shiftOut k x)
  z := some (decide (shiftResult k x c = 0#8))

end Sys2Proof.Machine
end

