-- ==== Sys2Proof/Machine/Operands.lean ====
section
/-! DEFINITION. Registers by name, pairs as views (10_state.md R10 to R17), effective addresses and every operand
form (20_memory.md R67, R68, R73, R84; 30_encoding.md R112). -/

namespace Sys2Proof.Machine

/-- The 8-bit registers that an instruction names. CB is not among them (10_state.md R29). -/
inductive Reg8 where
  | a
  | b
  | l
  | h
  | br
  | sc
  | nb
  | ep
  | xp
  | yp
deriving DecidableEq, Repr

/-- `R[x]` for an 8-bit register. -/
def State.reg8 (s : State) (r : Reg8) : Byte :=
  match r with
  | .a => s.a
  | .b => s.b
  | .l => s.l
  | .h => s.h
  | .br => s.br
  | .sc => s.sc
  | .nb => s.nb
  | .ep => s.ep
  | .xp => s.xp
  | .yp => s.yp

/-- `R[x] <- v` for an 8-bit register. -/
def State.setReg8 (s : State) (r : Reg8) (v : Byte) : State :=
  match r with
  | .a => { s with a := v }
  | .b => { s with b := v }
  | .l => { s with l := v }
  | .h => { s with h := v }
  | .br => { s with br := v }
  | .sc => { s with sc := v }
  | .nb => { s with nb := v }
  | .ep => { s with ep := v }
  | .xp => { s with xp := v }
  | .yp => { s with yp := v }

/-- The 16-bit registers and pairs that an instruction names. -/
inductive Reg16 where
  | ba
  | hl
  | ix
  | iy
  | sp
deriving DecidableEq, Repr

/-- `R[x]` for a 16-bit register; BA and HL are views (10_state.md R12). -/
def State.reg16 (s : State) (r : Reg16) : Word :=
  match r with
  | .ba => word16 s.b s.a
  | .hl => word16 s.h s.l
  | .ix => s.ix
  | .iy => s.iy
  | .sp => s.sp

/-- `R[x] <- v` for a 16-bit register (10_state.md R12). -/
def State.setReg16 (s : State) (r : Reg16) (v : Word) : State :=
  match r with
  | .ba => { s with b := highByte v, a := lowByte v }
  | .hl => { s with h := highByte v, l := lowByte v }
  | .ix => { s with ix := v }
  | .iy => { s with iy := v }
  | .sp => { s with sp := v }

/-- `sext_8` to 16 bits (00_scope.md R5). -/
def signExtend8 (x : Byte) : Word := x.signExtend 16

/-- The memory operands of 20_memory.md R68. -/
inductive MemOperand where
  | atHL
  | atIX
  | atIY
  | atIXdd (dd : Byte)
  | atIYdd (dd : Byte)
  | atIXL
  | atIYL
  | atSPdd (dd : Byte)
  | atBRll (ll : Byte)
  | athhll (hhll : Word)
deriving DecidableEq, Repr

/-- The page of a memory operand (20_memory.md R67). -/
def State.operandPage (s : State) (m : MemOperand) : Byte :=
  match m with
  | .atHL => s.ep
  | .atIX => s.xp
  | .atIY => s.yp
  | .atIXdd _ => s.xp
  | .atIYdd _ => s.yp
  | .atIXL => s.xp
  | .atIYL => s.yp
  | .atSPdd _ => s.pins.spp
  | .atBRll _ => s.ep
  | .athhll _ => s.ep

/-- The offset of a memory operand in its page, modulo 2^16 (20_memory.md R68). -/
def State.operandOffset (s : State) (m : MemOperand) : Word :=
  match m with
  | .atHL => s.reg16 .hl
  | .atIX => s.ix
  | .atIY => s.iy
  | .atIXdd dd => s.ix + signExtend8 dd
  | .atIYdd dd => s.iy + signExtend8 dd
  | .atIXL => s.ix + signExtend8 s.l
  | .atIYL => s.iy + signExtend8 s.l
  | .atSPdd dd => s.sp + signExtend8 dd
  | .atBRll ll => word16 s.br ll
  | .athhll hhll => hhll

/-- `Data(EA(m))`: the physical address of the operand's byte, or of its low byte (20_memory.md R68). -/
def State.operandAddr (s : State) (m : MemOperand) : Nat :=
  s.dataAddr (s.operandPage m) (s.operandOffset m)

/-- The physical address of the high byte of a 16-bit operand: the offset wraps in the page
(20_memory.md R73; log 18). -/
def State.operandAddrHigh (s : State) (m : MemOperand) : Nat :=
  s.dataAddr (s.operandPage m) (s.operandOffset m + 1#16)

/-- An 8-bit operand. -/
inductive Operand8 where
  | reg (r : Reg8)
  | imm (n : Byte)
  | mem (m : MemOperand)
deriving DecidableEq, Repr

/-- Reads an 8-bit operand; `Rd8` of 20_memory.md R84 for memory. -/
def State.read8 (s : State) (o : Operand8) : Byte :=
  match o with
  | .reg r => s.reg8 r
  | .imm n => n
  | .mem m => s.readMem (s.operandAddr m)

/-- Writes an 8-bit operand; `Wr8` of 20_memory.md R84 for memory. No instruction has an immediate destination. -/
def State.write8 (s : State) (o : Operand8) (v : Byte) : State :=
  match o with
  | .reg r => s.setReg8 r v
  | .imm _ => s
  | .mem m => s.writeMem (s.operandAddr m) v

/-- A 16-bit operand. -/
inductive Operand16 where
  | reg (r : Reg16)
  | imm (n : Word)
  | mem (m : MemOperand)
  /-- PC as data: the address of the next instruction (10_state.md R15) -/
  | pc
deriving DecidableEq, Repr

/-- Reads a 16-bit operand; `Read16` of 20_memory.md R73 for memory. -/
def State.read16 (s : State) (o : Operand16) : Word :=
  match o with
  | .reg r => s.reg16 r
  | .imm n => n
  | .mem m => word16 (s.readMem (s.operandAddrHigh m)) (s.readMem (s.operandAddr m))
  | .pc => s.pc

/-- Writes a 16-bit operand; `Write16` of 20_memory.md R73 for memory, low byte first. No instruction has an
immediate destination or loads PC this way (10_state.md R15). -/
def State.write16 (s : State) (o : Operand16) (v : Word) : State :=
  match o with
  | .reg r => s.setReg16 r v
  | .imm _ => s
  | .mem m => (s.writeMem (s.operandAddr m) (lowByte v)).writeMem (s.operandAddrHigh m) (highByte v)
  | .pc => s

end Sys2Proof.Machine
end

