-- ==== Sys2Proof/Machine/Ops.lean ====
section
/-! DEFINITION. The operations that the meanings share: transfers, arithmetic, the stack, branches, taking an
exception and returning from one. On entry PC holds the address of the next instruction (10_state.md R15). -/

namespace Sys2Proof.Machine

/-! ### Transfers -/

/-- Copies an 8-bit source to the destination (40_transfer8.md). -/
def State.load8 (s : State) (dst src : Operand8) : State := s.write8 dst (s.read8 src)

/-- Copies a 16-bit source to the destination (41_transfer16.md). -/
def State.load16 (s : State) (dst src : Operand16) : State := s.write16 dst (s.read16 src)

/-- Exchanges two 8-bit operands, the memory operand second (40_transfer8.md R183, R184). -/
def State.exchange8 (s : State) (x y : Operand8) : State :=
  (s.write8 y (s.read8 x)).write8 x (s.read8 y)

/-- Exchanges two 16-bit registers (41_transfer16.md R232). -/
def State.exchange16 (s : State) (x y : Operand16) : State :=
  (s.write16 y (s.read16 x)).write16 x (s.read16 y)

/-- Exchanges the high and the low 4 bits of an operand (40_transfer8.md R185, R186). -/
def State.swapNibbles (s : State) (dst : Operand8) : State :=
  s.write8 dst (lowNibble (s.read8 dst) ++ highNibble (s.read8 dst))

/-- `InhibitInt <- true`: no interrupt is accepted at the boundary after this instruction
(60_exceptions.md R606). -/
def State.holdInterrupts (s : State) : State := { s with inhibitInt := true }

/-- `R[SC] <- v` by an instruction whose destination is SC (60_exceptions.md R606). -/
def State.writeSC (s : State) (v : Byte) : State := { s with sc := v }.holdInterrupts

/-- An instruction that exists only where the CPU has bank and page registers (30_encoding.md R110, 93 U2). -/
def State.onBankModels (s t : State) : Result :=
  if s.hasBank then .next t else .fault (.absentOnModel s.model)

/-- An instruction that exists only where the CPU multiplies and divides (30_encoding.md R110, 93 U2). -/
def State.onMulDivModels (s t : State) : Result :=
  if s.hasMulDiv then .next t else .fault (.absentOnModel s.model)

/-! ### 8-bit arithmetic and logic -/

/-- The additions and subtractions. -/
inductive ArithOp where
  | add
  | adc
  | sub
  | sbc
deriving DecidableEq, Repr

/-- Advances the count of free values when an operation in the current mode needed one (log 15). -/
def State.countFreeDecimal (s : State) (x y : Byte) : State :=
  { s with freeIdx := if digitsValid s.aluMode x y then s.freeIdx else s.freeIdx + 1 }

/-- The result of a mode-sensitive 8-bit operation on `x` and `y` (10_state.md R46). -/
def State.arithResult8 (s : State) (op : ArithOp) (x y : Byte) : Alu 8 :=
  match op with
  | .add => add8 s.aluMode s.freeIdx x y false
  | .adc => add8 s.aluMode s.freeIdx x y s.flagC
  | .sub => sub8 s.aluMode s.freeIdx x y false
  | .sbc => sub8 s.aluMode s.freeIdx x y s.flagC

/-- ADD, ADC, SUB, SBC on 8 bits (42_alu8_arith.md R250 to R293). -/
def State.arith8 (s : State) (op : ArithOp) (dst src : Operand8) : State :=
  let r := s.arithResult8 op (s.read8 dst) (s.read8 src)
  (((s.countFreeDecimal (s.read8 dst) (s.read8 src)).write8 dst r.res)).writeFlags (allFlags r)

/-- NEG (42_alu8_arith.md R318 to R320): 0 minus the operand, mode-sensitive. -/
def State.negate8 (s : State) (dst : Operand8) : State :=
  let r := s.arithResult8 .sub 0#8 (s.read8 dst)
  ((s.countFreeDecimal 0#8 (s.read8 dst)).write8 dst r.res).writeFlags (allFlags r)

/-- CP on 8 bits (42_alu8_arith.md R294 to R309): always binary, only the flags are written. -/
def State.compare8 (s : State) (x y : Operand8) : State :=
  s.writeFlags (allFlags (subBin (s.read8 x) (s.read8 y) false))

/-- INC on 8 bits (42_alu8_arith.md R310 to R313). -/
def State.increment8 (s : State) (dst : Operand8) : State :=
  (s.write8 dst (s.read8 dst + 1#8)).writeFlags (zeroFlag (s.read8 dst + 1#8))

/-- DEC on 8 bits (42_alu8_arith.md R314 to R317). -/
def State.decrement8 (s : State) (dst : Operand8) : State :=
  (s.write8 dst (s.read8 dst - 1#8)).writeFlags (zeroFlag (s.read8 dst - 1#8))

/-- The bitwise operations. -/
inductive LogicOp where
  | and
  | or
  | xor
deriving DecidableEq, Repr

/-- The bitwise operation on two bytes. -/
def logicResult (op : LogicOp) (x y : Byte) : Byte :=
  match op with
  | .and => x &&& y
  | .or => x ||| y
  | .xor => x ^^^ y

/-- AND, OR, XOR on 8 bits, destination other than SC (43_alu8_logic.md R340 to R387). -/
def State.logic8 (s : State) (op : LogicOp) (dst src : Operand8) : State :=
  let r := logicResult op (s.read8 dst) (s.read8 src)
  (s.write8 dst r).writeFlags (logicFlags r)

/-- AND, OR, XOR with SC as destination: all eight bits are the result (43_alu8_logic.md R351). -/
def State.logicSC (s : State) (op : LogicOp) (nn : Byte) : State := s.writeSC (logicResult op s.sc nn)

/-- BIT: the flags of the bitwise AND, nothing stored (43_alu8_logic.md R388 to R392). -/
def State.testBits (s : State) (x y : Operand8) : State :=
  s.writeFlags (logicFlags (s.read8 x &&& s.read8 y))

/-- CPL: one's complement (43_alu8_logic.md R393 to R395). -/
def State.complement8 (s : State) (dst : Operand8) : State :=
  (s.write8 dst (s.read8 dst ^^^ 0xFF#8)).writeFlags (logicFlags (s.read8 dst ^^^ 0xFF#8))

/-- The shifts and rotates (46_rotate_shift.md R470 to R493). -/
def State.shift8 (s : State) (k : ShiftKind) (dst : Operand8) : State :=
  (s.write8 dst (shiftResult k (s.read8 dst) s.flagC)).writeFlags (shiftFlags k (s.read8 dst) s.flagC)

/-- PACK (45_aux.md R460). -/
def State.pack (s : State) : State := { s with a := lowNibble s.b ++ lowNibble s.a }

/-- UPCK (45_aux.md R461). -/
def State.unpack (s : State) : State :=
  { s with b := (highNibble s.a).zeroExtend 8, a := (lowNibble s.a).zeroExtend 8 }

/-- SEP (45_aux.md R462). -/
def State.signExpand (s : State) : State := { s with b := if s.a.msb then 0xFF#8 else 0x00#8 }

/-! ### 16-bit arithmetic -/

/-- The result of a 16-bit operation (10_state.md R48, R49). -/
def State.arithResult16 (s : State) (op : ArithOp) (x y : Word) : Alu 16 :=
  match op with
  | .add => addBin x y false
  | .adc => addBin x y s.flagC
  | .sub => subBin x y false
  | .sbc => subBin x y s.flagC

/-- ADD, ADC, SUB, SBC on 16 bits (44_alu16.md R410 to R444). -/
def State.arith16 (s : State) (op : ArithOp) (dst src : Operand16) : State :=
  let r := s.arithResult16 op (s.read16 dst) (s.read16 src)
  (s.write16 dst r.res).writeFlags (allFlags r)

/-- CP on 16 bits (44_alu16.md R418, R419, R426, R435 to R438, R445). -/
def State.compare16 (s : State) (x y : Operand16) : State :=
  s.writeFlags (allFlags (subBin (s.read16 x) (s.read16 y) false))

/-- INC on 16 bits (44_alu16.md R446, R447). -/
def State.increment16 (s : State) (dst : Operand16) : State :=
  (s.write16 dst (s.read16 dst + 1#16)).writeFlags (zeroFlag (s.read16 dst + 1#16))

/-- DEC on 16 bits (44_alu16.md R448, R449). -/
def State.decrement16 (s : State) (dst : Operand16) : State :=
  (s.write16 dst (s.read16 dst - 1#16)).writeFlags (zeroFlag (s.read16 dst - 1#16))

/-- MLT (42_alu8_arith.md R321): HL becomes the unsigned product of L and A. -/
def State.multiply (s : State) : State :=
  let p : Word := BitVec.ofNat 16 (s.l.toNat * s.a.toNat)
  (s.setReg16 .hl p).writeFlags
    { n := some p.msb, v := some false, c := some false, z := some (decide (p = 0#16)) }

/-! ### The stack -/

/-- The physical address that SP points at, in page SPP (20_memory.md R74). -/
def State.stackAddr (s : State) : Nat := s.dataAddr s.pins.spp s.sp

/-- `Push8(v)` (20_memory.md R75): SP is decremented first. -/
def State.push8 (s : State) (v : Byte) : State :=
  let t := { s with sp := s.sp - 1#16 }
  t.writeMem t.stackAddr v

/-- The byte that `Pop8()` returns (20_memory.md R75). -/
def State.popped8 (s : State) : Byte := s.readMem s.stackAddr

/-- The state after `Pop8()`: SP is incremented (20_memory.md R75). -/
def State.drop8 (s : State) : State := { s with sp := s.sp + 1#16 }

/-- `Push16(v)` (20_memory.md R76): high byte first, so that the low byte lies at the lower address. -/
def State.push16 (s : State) (v : Word) : State := (s.push8 (highByte v)).push8 (lowByte v)

/-- The value that `Pop16()` returns (20_memory.md R76): low byte first. -/
def State.popped16 (s : State) : Word := word16 s.drop8.popped8 s.popped8

/-- The state after `Pop16()`. -/
def State.drop16 (s : State) : State := s.drop8.drop8

/-- `R[r] <- Pop8()` (47_stack.md R518, R520, R521). -/
def State.popReg8 (s : State) (r : Reg8) : State := s.drop8.setReg8 r s.popped8

/-- `R[rp] <- Pop16()` (47_stack.md R519). -/
def State.popReg16 (s : State) (r : Reg16) : State := s.drop16.setReg16 r s.popped16

/-- PUSH IP: XP, then YP (47_stack.md R514). -/
def State.pushIP (s : State) : State := (s.push8 s.xp).push8 s.yp

/-- POP IP: YP, then XP (47_stack.md R522). -/
def State.popIP (s : State) : State := (s.popReg8 .yp).popReg8 .xp

/-- PUSH ALL: BA, HL, IX, IY, BR (47_stack.md R516). -/
def State.pushAll (s : State) : State :=
  ((((s.push16 (s.reg16 .ba)).push16 (s.reg16 .hl)).push16 s.ix).push16 s.iy).push8 s.br

/-- POP ALL: BR, IY, IX, HL, BA (47_stack.md R524). -/
def State.popAll (s : State) : State :=
  ((((s.popReg8 .br).popReg16 .iy).popReg16 .ix).popReg16 .hl).popReg16 .ba

/-- PUSH ALE: as PUSH ALL, then EP, XP, YP (47_stack.md R517). -/
def State.pushAllExtended (s : State) : State := (s.pushAll.push8 s.ep).pushIP

/-- POP ALE: YP, XP, EP, then as POP ALL (47_stack.md R525). -/
def State.popAllExtended (s : State) : State := (s.popIP.popReg8 .ep).popAll

/-! ### Branches -/

/-- The branch conditions (48_branch.md R541). -/
inductive Condition where
  | c
  | nc
  | z
  | nz
  | lt
  | le
  | gt
  | ge
  | v
  | nv
  | p
  | m
  | f0
  | f1
  | f2
  | f3
  | nf0
  | nf1
  | nf2
  | nf3
deriving DecidableEq, Repr

/-- `Cond(cc)` (48_branch.md R541): inner operator exclusive OR, outer inclusive OR (90 C3). -/
def State.holds (s : State) (cc : Condition) : Bool :=
  match cc with
  | .c => s.flagC
  | .nc => !s.flagC
  | .z => s.flagZ
  | .nz => !s.flagZ
  | .lt => s.flagN ^^ s.flagV
  | .le => s.flagZ || (s.flagN ^^ s.flagV)
  | .gt => !(s.flagZ || (s.flagN ^^ s.flagV))
  | .ge => !(s.flagN ^^ s.flagV)
  | .v => s.flagV
  | .nv => !s.flagV
  | .p => !s.flagN
  | .m => s.flagN
  | .f0 => s.pins.f0
  | .f1 => s.pins.f1
  | .f2 => s.pins.f2
  | .f3 => s.pins.f3
  | .nf0 => !s.pins.f0
  | .nf1 => !s.pins.f1
  | .nf2 => !s.pins.f2
  | .nf3 => !s.pins.f3

/-- `Rel8(rr)` (48_branch.md R540): from the address of the last byte of the instruction, next - 1. -/
def State.rel8 (s : State) (rr : Byte) : Word := s.pc - 1#16 + signExtend8 rr

/-- `Rel16(qq, rr)` (48_branch.md R540). -/
def State.rel16 (s : State) (qqrr : Word) : Word := s.pc - 1#16 + qqrr

/-- `Taken()` (48_branch.md R542): CB <- NB where there are banks. -/
def State.taken (s : State) : State := { s with cb := if s.hasBank then s.nb else s.cb }

/-- `NotTaken()` (48_branch.md R542): NB <- CB where there are banks. -/
def State.notTaken (s : State) : State := { s with nb := if s.hasBank then s.cb else s.nb }

/-- PC <- target; the prefetched byte is discarded (70_reset_and_hazards.md R671). -/
def State.setPC (s : State) (target : Word) : State := { s with pc := target, lateStore := none }

/-- A taken branch to `target`. -/
def State.branchTo (s : State) (target : Word) : State := s.taken.setPC target

/-- A relative jump under a condition (48_branch.md R545, R546, R548). -/
def State.branchIf (s : State) (cond : Bool) (target : Word) : State :=
  if cond then s.branchTo target else s.notTaken

/-- `PushRet(ret)` (48_branch.md R543): CB in maximum mode, then the return address. -/
def State.pushRet (s : State) (ret : Word) : State :=
  if s.maxMode then (s.push8 s.cb).push16 ret else s.push16 ret

/-- `PopRet()` (48_branch.md R543): PC, then in maximum mode CB, which NB follows. -/
def State.popRet (s : State) : State :=
  let t := s.drop16.setPC s.popped16
  if t.maxMode then { t.drop8 with cb := t.popped8, nb := t.popped8 } else t

/-- A call (48_branch.md R552, R555): the return address is the next instruction's. -/
def State.callTo (s : State) (target : Word) : State := (s.pushRet s.pc).branchTo target

/-- A call under a condition (48_branch.md R553, R554, R556): nothing is pushed when it fails. -/
def State.callIf (s : State) (cond : Bool) (target : Word) : State :=
  if cond then s.callTo target else s.notTaken

/-- CALL [hhll] (48_branch.md R557): the pushes come before the pointer read (92 D20; log 25). -/
def State.callIndirect (s : State) (hhll : Word) : State :=
  (s.pushRet s.pc).branchTo ((s.pushRet s.pc).read16 (.mem (.athhll hhll)))

/-- DJR NZ (48_branch.md R549). -/
def State.decrementAndBranch (s : State) (rr : Byte) : State :=
  (s.decrement8 (.reg .b)).branchIf (decide (s.b - 1#8 ≠ 0#8)) (s.rel8 rr)

/-- INT [kk] (48_branch.md R561): return information as for an exception, then a branch through the vector;
I1 and I0 are kept (92 D28; log 23). -/
def State.softwareInterrupt (s : State) (kk : Byte) : State :=
  let t := (s.pushRet s.pc).push8 s.sc
  t.branchTo (t.vector kk)

/-! ### Taking an exception and returning from it -/

/-- The interrupts, by priority level (60_exceptions.md R602). -/
inductive IntLevel where
  | irq1
  | irq2
  | irq3
  | nmi
deriving DecidableEq, Repr

/-- I1 I0 after an interrupt is accepted (60_exceptions.md R613, Table 3.5.3.3). -/
def acceptedMask (lvl : IntLevel) : BitVec 2 :=
  match lvl with
  | .irq1 => 0b01#2
  | .irq2 => 0b10#2
  | .irq3 => 0b11#2
  | .nmi => 0b11#2

/-- SC with I1 I0 replaced. -/
def maskInto (sc : Byte) (m : BitVec 2) : Byte := m ++ sc.extractLsb' 0 6

/-- `ExceptionEntry(v, ret, lvl)` (60_exceptions.md R620); `none` is `keep`. The return address is pushed (CB first in
maximum mode), then SC, then the mask is raised, PC is loaded from the vector, the core runs, and interrupts are not
held off. NB and CB are kept (92 D9; log 17). The prefetched byte is discarded (70_reset_and_hazards.md R671). -/
def State.exceptionEntry (s : State) (v : Byte) (ret : Word) (lvl : Option IntLevel) : State :=
  let t := (s.pushRet ret).push8 s.sc
  let u := { t with
    sc := match lvl with
      | none => t.sc
      | some l => maskInto t.sc (acceptedMask l)
    runState := .running
    inhibitInt := false }
  u.setPC (t.vector v)

/-- RETE (48_branch.md R559, 60_exceptions.md R621). -/
def State.exceptionReturn (s : State) : State :=
  { s.drop8 with sc := s.popped8 }.popRet.holdInterrupts

/-- DIV (42_alu8_arith.md R322): zero divisor, quotient over 8 bits, or quotient in L and remainder in H. -/
def State.divide (s : State) : State :=
  let overflow : FlagWrite := { n := some true, v := some true, c := some false, z := some false }
  let hl := (s.reg16 .hl).toNat
  if s.a = 0#8 then (s.writeFlags overflow).exceptionEntry 0x02#8 s.pc none
  else if 255 < hl / s.a.toNat then s.writeFlags overflow
  else
    let q : Byte := BitVec.ofNat 8 (hl / s.a.toNat)
    let r : Byte := BitVec.ofNat 8 (hl % s.a.toNat)
    ({ s with l := q, h := r }).writeFlags
      { n := some q.msb, v := some false, c := some false, z := some (decide (q = 0#8)) }

end Sys2Proof.Machine
end

