-- ==== Sys2Proof/Machine/Boundary.lean ====
section
/-! DEFINITION. What happens at an instruction boundary: the inputs are sampled, an interrupt is picked, an
exception is entered or the core is reset (60_exceptions.md R602 to R606, R612, R613; 70_reset_and_hazards.md R660). -/

namespace Sys2Proof.Machine

/-- Takes this step's input levels: the next entry of `env`, or, where `env` is empty, the levels as they stand
without a new event; a falling edge of NMI is remembered (60_exceptions.md R604, R605; log 6). -/
def State.sample (s : State) : State :=
  match s.env with
  | [] => { s with pins := { s.pins with reset := false, nmiEdge := false } }
  | p :: rest => { s with pins := p, env := rest, nmiPending := s.nmiPending || p.nmiEdge }

/-- `IrqLevel(n)` for an IRQ, `NmiPending` for NMI (60_exceptions.md R602). -/
def State.requested (s : State) (lvl : IntLevel) : Bool :=
  match lvl with
  | .irq1 => s.pins.irq1
  | .irq2 => s.pins.irq2
  | .irq3 => s.pins.irq3
  | .nmi => s.nmiPending

/-- The priority level of an interrupt (60_exceptions.md R602, Table 3.5.3.1). -/
def priority (lvl : IntLevel) : Nat :=
  match lvl with
  | .irq1 => 1
  | .irq2 => 2
  | .irq3 => 3
  | .nmi => 4

/-- `Acceptable(x)` (60_exceptions.md R602): IMASK masks all four, the mask level only the IRQs. NMI, level 4, is
above every mask level. -/
def State.acceptable (s : State) (lvl : IntLevel) : Bool :=
  s.requested lvl && !s.pins.imask && decide (s.maskLevel < priority lvl)

/-- `pick`: the acceptable interrupt of highest level, if any (60_exceptions.md R603). -/
def State.pick (s : State) : Option IntLevel :=
  if s.acceptable .nmi then some .nmi
  else if s.acceptable .irq3 then some .irq3
  else if s.acceptable .irq2 then some .irq2
  else if s.acceptable .irq1 then some .irq1
  else none

/-- `EnterInterrupt` (60_exceptions.md R612, R613): NMI clears its pending bit and has vector 04H, an IRQ has the
vector address that the peripheral supplies. The return address is PC. -/
def State.enterInterrupt (s : State) (lvl : IntLevel) : State :=
  match lvl with
  | .nmi => { s with nmiPending := false }.exceptionEntry 0x04#8 s.pc (some .nmi)
  | .irq1 => s.exceptionEntry s.pins.irqVector s.pc (some .irq1)
  | .irq2 => s.exceptionEntry s.pins.irqVector s.pc (some .irq2)
  | .irq3 => s.exceptionEntry s.pins.irqVector s.pc (some .irq3)

/-- `ResetSequence()` (70_reset_and_hazards.md R660). The registers that it leaves undefined take free values
(log 2). -/
def State.resetSequence (s : State) : State :=
  { s with
    sc := 0xC0#8
    nb := if s.hasBank then 0x01#8 else s.nb
    cb := if s.hasBank then 0x01#8 else s.cb
    ep := if s.hasBank then 0x00#8 else s.ep
    xp := if s.hasBank then 0x00#8 else s.xp
    yp := if s.hasBank then 0x00#8 else s.yp
    a := Config.resetA s.freeIdx
    b := Config.resetB s.freeIdx
    l := Config.resetL s.freeIdx
    h := Config.resetH s.freeIdx
    br := Config.resetBR s.freeIdx
    ix := Config.resetIX s.freeIdx
    iy := Config.resetIY s.freeIdx
    sp := Config.resetSP s.freeIdx
    pc := s.vector 0x00#8
    runState := .running
    inhibitInt := false
    nmiPending := false
    freeIdx := s.freeIdx + 1
    lateStore := none }

/-- What a step does (60_exceptions.md R603). -/
inductive BoundaryAction where
  /-- run the reset sequence -/
  | reset
  /-- enter an interrupt -/
  | enter (lvl : IntLevel)
  /-- stay stopped in HALT or SLEEP -/
  | wait
  /-- fetch and execute one instruction -/
  | execute
deriving DecidableEq, Repr

/-- The choice of `Step()` in 60_exceptions.md R603, after the inputs are sampled. -/
def State.boundaryAction (s : State) : BoundaryAction :=
  if s.pins.reset then .reset
  else if s.runState ≠ .running then
    match s.pick with
    | some lvl => .enter lvl
    | none => .wait
  else
    match s.pick with
    | some lvl => if s.inhibitInt then .execute else .enter lvl
    | none => .execute

end Sys2Proof.Machine
end

