-- ==== Sys2Proof/Machine/Alu16.lean ====
section
/-! DEFINITION. 16-bit arithmetic: ADD, ADC, SUB, SBC, CP, INC, DEC (44_alu16.md R410 to R449).
One definition per instruction; each runs with PC at the next instruction (10_state.md R15). -/

namespace Sys2Proof.Machine

/-- `ADD BA,BA` (R410). -/
def execAddBA_BA (s : State) : Result := .next (s.arith16 .add (.reg .ba) (.reg .ba))

/-- `ADD BA,HL` (R410). -/
def execAddBA_HL (s : State) : Result := .next (s.arith16 .add (.reg .ba) (.reg .hl))

/-- `ADD BA,IX` (R410). -/
def execAddBA_IX (s : State) : Result := .next (s.arith16 .add (.reg .ba) (.reg .ix))

/-- `ADD BA,IY` (R410). -/
def execAddBA_IY (s : State) : Result := .next (s.arith16 .add (.reg .ba) (.reg .iy))

/-- `ADD HL,BA` (R411). -/
def execAddHL_BA (s : State) : Result := .next (s.arith16 .add (.reg .hl) (.reg .ba))

/-- `ADD HL,HL` (R411). -/
def execAddHL_HL (s : State) : Result := .next (s.arith16 .add (.reg .hl) (.reg .hl))

/-- `ADD HL,IX` (R411). -/
def execAddHL_IX (s : State) : Result := .next (s.arith16 .add (.reg .hl) (.reg .ix))

/-- `ADD HL,IY` (R411). -/
def execAddHL_IY (s : State) : Result := .next (s.arith16 .add (.reg .hl) (.reg .iy))

/-- `ADC BA,BA` (R412). -/
def execAdcBA_BA (s : State) : Result := .next (s.arith16 .adc (.reg .ba) (.reg .ba))

/-- `ADC BA,HL` (R412). -/
def execAdcBA_HL (s : State) : Result := .next (s.arith16 .adc (.reg .ba) (.reg .hl))

/-- `ADC BA,IX` (R412). -/
def execAdcBA_IX (s : State) : Result := .next (s.arith16 .adc (.reg .ba) (.reg .ix))

/-- `ADC BA,IY` (R412). -/
def execAdcBA_IY (s : State) : Result := .next (s.arith16 .adc (.reg .ba) (.reg .iy))

/-- `ADC HL,BA` (R413). -/
def execAdcHL_BA (s : State) : Result := .next (s.arith16 .adc (.reg .hl) (.reg .ba))

/-- `ADC HL,HL` (R413). -/
def execAdcHL_HL (s : State) : Result := .next (s.arith16 .adc (.reg .hl) (.reg .hl))

/-- `ADC HL,IX` (R413). -/
def execAdcHL_IX (s : State) : Result := .next (s.arith16 .adc (.reg .hl) (.reg .ix))

/-- `ADC HL,IY` (R413). -/
def execAdcHL_IY (s : State) : Result := .next (s.arith16 .adc (.reg .hl) (.reg .iy))

/-- `SUB BA,BA` (R414). -/
def execSubBA_BA (s : State) : Result := .next (s.arith16 .sub (.reg .ba) (.reg .ba))

/-- `SUB BA,HL` (R414). -/
def execSubBA_HL (s : State) : Result := .next (s.arith16 .sub (.reg .ba) (.reg .hl))

/-- `SUB BA,IX` (R414). -/
def execSubBA_IX (s : State) : Result := .next (s.arith16 .sub (.reg .ba) (.reg .ix))

/-- `SUB BA,IY` (R414). -/
def execSubBA_IY (s : State) : Result := .next (s.arith16 .sub (.reg .ba) (.reg .iy))

/-- `SUB HL,BA` (R415). -/
def execSubHL_BA (s : State) : Result := .next (s.arith16 .sub (.reg .hl) (.reg .ba))

/-- `SUB HL,HL` (R415). -/
def execSubHL_HL (s : State) : Result := .next (s.arith16 .sub (.reg .hl) (.reg .hl))

/-- `SUB HL,IX` (R415). -/
def execSubHL_IX (s : State) : Result := .next (s.arith16 .sub (.reg .hl) (.reg .ix))

/-- `SUB HL,IY` (R415). -/
def execSubHL_IY (s : State) : Result := .next (s.arith16 .sub (.reg .hl) (.reg .iy))

/-- `SBC BA,BA` (R416). -/
def execSbcBA_BA (s : State) : Result := .next (s.arith16 .sbc (.reg .ba) (.reg .ba))

/-- `SBC BA,HL` (R416). -/
def execSbcBA_HL (s : State) : Result := .next (s.arith16 .sbc (.reg .ba) (.reg .hl))

/-- `SBC BA,IX` (R416). -/
def execSbcBA_IX (s : State) : Result := .next (s.arith16 .sbc (.reg .ba) (.reg .ix))

/-- `SBC BA,IY` (R416). -/
def execSbcBA_IY (s : State) : Result := .next (s.arith16 .sbc (.reg .ba) (.reg .iy))

/-- `SBC HL,BA` (R417). -/
def execSbcHL_BA (s : State) : Result := .next (s.arith16 .sbc (.reg .hl) (.reg .ba))

/-- `SBC HL,HL` (R417). -/
def execSbcHL_HL (s : State) : Result := .next (s.arith16 .sbc (.reg .hl) (.reg .hl))

/-- `SBC HL,IX` (R417). -/
def execSbcHL_IX (s : State) : Result := .next (s.arith16 .sbc (.reg .hl) (.reg .ix))

/-- `SBC HL,IY` (R417). -/
def execSbcHL_IY (s : State) : Result := .next (s.arith16 .sbc (.reg .hl) (.reg .iy))

/-- `CP BA,BA` (R418). -/
def execCpBA_BA (s : State) : Result := .next (s.compare16 (.reg .ba) (.reg .ba))

/-- `CP BA,HL` (R418). -/
def execCpBA_HL (s : State) : Result := .next (s.compare16 (.reg .ba) (.reg .hl))

/-- `CP BA,IX` (R418). -/
def execCpBA_IX (s : State) : Result := .next (s.compare16 (.reg .ba) (.reg .ix))

/-- `CP BA,IY` (R418). -/
def execCpBA_IY (s : State) : Result := .next (s.compare16 (.reg .ba) (.reg .iy))

/-- `CP HL,BA` (R419). -/
def execCpHL_BA (s : State) : Result := .next (s.compare16 (.reg .hl) (.reg .ba))

/-- `CP HL,HL` (R419). -/
def execCpHL_HL (s : State) : Result := .next (s.compare16 (.reg .hl) (.reg .hl))

/-- `CP HL,IX` (R419). -/
def execCpHL_IX (s : State) : Result := .next (s.compare16 (.reg .hl) (.reg .ix))

/-- `CP HL,IY` (R419). -/
def execCpHL_IY (s : State) : Result := .next (s.compare16 (.reg .hl) (.reg .iy))

/-- `ADD IX,BA` (R420). -/
def execAddIX_BA (s : State) : Result := .next (s.arith16 .add (.reg .ix) (.reg .ba))

/-- `ADD IX,HL` (R420). -/
def execAddIX_HL (s : State) : Result := .next (s.arith16 .add (.reg .ix) (.reg .hl))

/-- `ADD IY,BA` (R421). -/
def execAddIY_BA (s : State) : Result := .next (s.arith16 .add (.reg .iy) (.reg .ba))

/-- `ADD IY,HL` (R421). -/
def execAddIY_HL (s : State) : Result := .next (s.arith16 .add (.reg .iy) (.reg .hl))

/-- `ADD SP,BA` (R422). -/
def execAddSP_BA (s : State) : Result := .next (s.arith16 .add (.reg .sp) (.reg .ba))

/-- `ADD SP,HL` (R422). -/
def execAddSP_HL (s : State) : Result := .next (s.arith16 .add (.reg .sp) (.reg .hl))

/-- `SUB IX,BA` (R423). -/
def execSubIX_BA (s : State) : Result := .next (s.arith16 .sub (.reg .ix) (.reg .ba))

/-- `SUB IX,HL` (R423). -/
def execSubIX_HL (s : State) : Result := .next (s.arith16 .sub (.reg .ix) (.reg .hl))

/-- `SUB IY,BA` (R424). -/
def execSubIY_BA (s : State) : Result := .next (s.arith16 .sub (.reg .iy) (.reg .ba))

/-- `SUB IY,HL` (R424). -/
def execSubIY_HL (s : State) : Result := .next (s.arith16 .sub (.reg .iy) (.reg .hl))

/-- `SUB SP,BA` (R425). -/
def execSubSP_BA (s : State) : Result := .next (s.arith16 .sub (.reg .sp) (.reg .ba))

/-- `SUB SP,HL` (R425). -/
def execSubSP_HL (s : State) : Result := .next (s.arith16 .sub (.reg .sp) (.reg .hl))

/-- `CP SP,BA` (R426). -/
def execCpSP_BA (s : State) : Result := .next (s.compare16 (.reg .sp) (.reg .ba))

/-- `CP SP,HL` (R426). -/
def execCpSP_HL (s : State) : Result := .next (s.compare16 (.reg .sp) (.reg .hl))

/-- `ADD BA,#mmnn` (R427). -/
def execAddBA_imm (mmnn : Word) (s : State) : Result := .next (s.arith16 .add (.reg .ba) (.imm mmnn))

/-- `ADD HL,#mmnn` (R428). -/
def execAddHL_imm (mmnn : Word) (s : State) : Result := .next (s.arith16 .add (.reg .hl) (.imm mmnn))

/-- `ADD IX,#mmnn` (R429). -/
def execAddIX_imm (mmnn : Word) (s : State) : Result := .next (s.arith16 .add (.reg .ix) (.imm mmnn))

/-- `ADD IY,#mmnn` (R430). -/
def execAddIY_imm (mmnn : Word) (s : State) : Result := .next (s.arith16 .add (.reg .iy) (.imm mmnn))

/-- `SUB BA,#mmnn` (R431). -/
def execSubBA_imm (mmnn : Word) (s : State) : Result := .next (s.arith16 .sub (.reg .ba) (.imm mmnn))

/-- `SUB HL,#mmnn` (R432). -/
def execSubHL_imm (mmnn : Word) (s : State) : Result := .next (s.arith16 .sub (.reg .hl) (.imm mmnn))

/-- `SUB IX,#mmnn` (R433). -/
def execSubIX_imm (mmnn : Word) (s : State) : Result := .next (s.arith16 .sub (.reg .ix) (.imm mmnn))

/-- `SUB IY,#mmnn` (R434). -/
def execSubIY_imm (mmnn : Word) (s : State) : Result := .next (s.arith16 .sub (.reg .iy) (.imm mmnn))

/-- `CP BA,#mmnn` (R435). -/
def execCpBA_imm (mmnn : Word) (s : State) : Result := .next (s.compare16 (.reg .ba) (.imm mmnn))

/-- `CP HL,#mmnn` (R436). -/
def execCpHL_imm (mmnn : Word) (s : State) : Result := .next (s.compare16 (.reg .hl) (.imm mmnn))

/-- `CP IX,#mmnn` (R437). -/
def execCpIX_imm (mmnn : Word) (s : State) : Result := .next (s.compare16 (.reg .ix) (.imm mmnn))

/-- `CP IY,#mmnn` (R438). -/
def execCpIY_imm (mmnn : Word) (s : State) : Result := .next (s.compare16 (.reg .iy) (.imm mmnn))

/-- `ADC BA,#mmnn` (R439). -/
def execAdcBA_imm (mmnn : Word) (s : State) : Result := .next (s.arith16 .adc (.reg .ba) (.imm mmnn))

/-- `ADC HL,#mmnn` (R440). -/
def execAdcHL_imm (mmnn : Word) (s : State) : Result := .next (s.arith16 .adc (.reg .hl) (.imm mmnn))

/-- `SBC BA,#mmnn` (R441). -/
def execSbcBA_imm (mmnn : Word) (s : State) : Result := .next (s.arith16 .sbc (.reg .ba) (.imm mmnn))

/-- `SBC HL,#mmnn` (R442). -/
def execSbcHL_imm (mmnn : Word) (s : State) : Result := .next (s.arith16 .sbc (.reg .hl) (.imm mmnn))

/-- `ADD SP,#mmnn` (R443). -/
def execAddSP_imm (mmnn : Word) (s : State) : Result := .next (s.arith16 .add (.reg .sp) (.imm mmnn))

/-- `SUB SP,#mmnn` (R444). -/
def execSubSP_imm (mmnn : Word) (s : State) : Result := .next (s.arith16 .sub (.reg .sp) (.imm mmnn))

/-- `CP SP,#mmnn` (R445). -/
def execCpSP_imm (mmnn : Word) (s : State) : Result := .next (s.compare16 (.reg .sp) (.imm mmnn))

/-- `INC BA` (R446). -/
def execIncBA (s : State) : Result := .next (s.increment16 (.reg .ba))

/-- `INC HL` (R446). -/
def execIncHL (s : State) : Result := .next (s.increment16 (.reg .hl))

/-- `INC IX` (R446). -/
def execIncIX (s : State) : Result := .next (s.increment16 (.reg .ix))

/-- `INC IY` (R446). -/
def execIncIY (s : State) : Result := .next (s.increment16 (.reg .iy))

/-- `INC SP` (R447). -/
def execIncSP (s : State) : Result := .next (s.increment16 (.reg .sp))

/-- `DEC BA` (R448). -/
def execDecBA (s : State) : Result := .next (s.decrement16 (.reg .ba))

/-- `DEC HL` (R448). -/
def execDecHL (s : State) : Result := .next (s.decrement16 (.reg .hl))

/-- `DEC IX` (R448). -/
def execDecIX (s : State) : Result := .next (s.decrement16 (.reg .ix))

/-- `DEC IY` (R448). -/
def execDecIY (s : State) : Result := .next (s.decrement16 (.reg .iy))

/-- `DEC SP` (R449). -/
def execDecSP (s : State) : Result := .next (s.decrement16 (.reg .sp))

end Sys2Proof.Machine
end

