-- ==== Sys2Proof/Machine/Arith8.lean ====
section
/-! DEFINITION. 8-bit arithmetic: ADD, ADC, SUB, SBC, CP, INC, DEC, NEG, MLT, DIV (42_alu8_arith.md R250 to R322).
One definition per instruction; each runs with PC at the next instruction (10_state.md R15). -/

namespace Sys2Proof.Machine

/-- `ADD A,A` (R250). -/
def execAddA_A (s : State) : Result := .next (s.arith8 .add (.reg .a) (.reg .a))

/-- `ADD A,B` (R250). -/
def execAddA_B (s : State) : Result := .next (s.arith8 .add (.reg .a) (.reg .b))

/-- `ADD A,#nn` (R251). -/
def execAddA_imm (nn : Byte) (s : State) : Result := .next (s.arith8 .add (.reg .a) (.imm nn))

/-- `ADD A,[BR:ll]` (R252). -/
def execAddA_atBRll (ll : Byte) (s : State) : Result := .next (s.arith8 .add (.reg .a) (.mem (.atBRll ll)))

/-- `ADD A,[hhll]` (R253). -/
def execAddA_athhll (hhll : Word) (s : State) : Result :=
  .next (s.arith8 .add (.reg .a) (.mem (.athhll hhll)))

/-- `ADD A,[HL]` (R254). -/
def execAddA_atHL (s : State) : Result := .next (s.arith8 .add (.reg .a) (.mem .atHL))

/-- `ADD A,[IX]` (R255). -/
def execAddA_atIX (s : State) : Result := .next (s.arith8 .add (.reg .a) (.mem .atIX))

/-- `ADD A,[IY]` (R255). -/
def execAddA_atIY (s : State) : Result := .next (s.arith8 .add (.reg .a) (.mem .atIY))

/-- `ADD A,[IX+dd]` (R256). -/
def execAddA_atIXdd (dd : Byte) (s : State) : Result := .next (s.arith8 .add (.reg .a) (.mem (.atIXdd dd)))

/-- `ADD A,[IY+dd]` (R256). -/
def execAddA_atIYdd (dd : Byte) (s : State) : Result := .next (s.arith8 .add (.reg .a) (.mem (.atIYdd dd)))

/-- `ADD A,[IX+L]` (R257). -/
def execAddA_atIXL (s : State) : Result := .next (s.arith8 .add (.reg .a) (.mem .atIXL))

/-- `ADD A,[IY+L]` (R257). -/
def execAddA_atIYL (s : State) : Result := .next (s.arith8 .add (.reg .a) (.mem .atIYL))

/-- `ADD [HL],A` (R258). -/
def execAdd_atHL_A (s : State) : Result := .next (s.arith8 .add (.mem .atHL) (.reg .a))

/-- `ADD [HL],#nn` (R259). -/
def execAdd_atHL_imm (nn : Byte) (s : State) : Result := .next (s.arith8 .add (.mem .atHL) (.imm nn))

/-- `ADD [HL],[IX]` (R260). -/
def execAdd_atHL_atIX (s : State) : Result := .next (s.arith8 .add (.mem .atHL) (.mem .atIX))

/-- `ADD [HL],[IY]` (R260). -/
def execAdd_atHL_atIY (s : State) : Result := .next (s.arith8 .add (.mem .atHL) (.mem .atIY))

/-- `ADC A,A` (R261). -/
def execAdcA_A (s : State) : Result := .next (s.arith8 .adc (.reg .a) (.reg .a))

/-- `ADC A,B` (R261). -/
def execAdcA_B (s : State) : Result := .next (s.arith8 .adc (.reg .a) (.reg .b))

/-- `ADC A,#nn` (R262). -/
def execAdcA_imm (nn : Byte) (s : State) : Result := .next (s.arith8 .adc (.reg .a) (.imm nn))

/-- `ADC A,[BR:ll]` (R263). -/
def execAdcA_atBRll (ll : Byte) (s : State) : Result := .next (s.arith8 .adc (.reg .a) (.mem (.atBRll ll)))

/-- `ADC A,[hhll]` (R264). -/
def execAdcA_athhll (hhll : Word) (s : State) : Result :=
  .next (s.arith8 .adc (.reg .a) (.mem (.athhll hhll)))

/-- `ADC A,[HL]` (R265). -/
def execAdcA_atHL (s : State) : Result := .next (s.arith8 .adc (.reg .a) (.mem .atHL))

/-- `ADC A,[IX]` (R266). -/
def execAdcA_atIX (s : State) : Result := .next (s.arith8 .adc (.reg .a) (.mem .atIX))

/-- `ADC A,[IY]` (R266). -/
def execAdcA_atIY (s : State) : Result := .next (s.arith8 .adc (.reg .a) (.mem .atIY))

/-- `ADC A,[IX+dd]` (R267). -/
def execAdcA_atIXdd (dd : Byte) (s : State) : Result := .next (s.arith8 .adc (.reg .a) (.mem (.atIXdd dd)))

/-- `ADC A,[IY+dd]` (R267). -/
def execAdcA_atIYdd (dd : Byte) (s : State) : Result := .next (s.arith8 .adc (.reg .a) (.mem (.atIYdd dd)))

/-- `ADC A,[IX+L]` (R268). -/
def execAdcA_atIXL (s : State) : Result := .next (s.arith8 .adc (.reg .a) (.mem .atIXL))

/-- `ADC A,[IY+L]` (R268). -/
def execAdcA_atIYL (s : State) : Result := .next (s.arith8 .adc (.reg .a) (.mem .atIYL))

/-- `ADC [HL],A` (R269). -/
def execAdc_atHL_A (s : State) : Result := .next (s.arith8 .adc (.mem .atHL) (.reg .a))

/-- `ADC [HL],#nn` (R270). -/
def execAdc_atHL_imm (nn : Byte) (s : State) : Result := .next (s.arith8 .adc (.mem .atHL) (.imm nn))

/-- `ADC [HL],[IX]` (R271). -/
def execAdc_atHL_atIX (s : State) : Result := .next (s.arith8 .adc (.mem .atHL) (.mem .atIX))

/-- `ADC [HL],[IY]` (R271). -/
def execAdc_atHL_atIY (s : State) : Result := .next (s.arith8 .adc (.mem .atHL) (.mem .atIY))

/-- `SUB A,A` (R272). -/
def execSubA_A (s : State) : Result := .next (s.arith8 .sub (.reg .a) (.reg .a))

/-- `SUB A,B` (R272). -/
def execSubA_B (s : State) : Result := .next (s.arith8 .sub (.reg .a) (.reg .b))

/-- `SUB A,#nn` (R273). -/
def execSubA_imm (nn : Byte) (s : State) : Result := .next (s.arith8 .sub (.reg .a) (.imm nn))

/-- `SUB A,[BR:ll]` (R274). -/
def execSubA_atBRll (ll : Byte) (s : State) : Result := .next (s.arith8 .sub (.reg .a) (.mem (.atBRll ll)))

/-- `SUB A,[hhll]` (R275). -/
def execSubA_athhll (hhll : Word) (s : State) : Result :=
  .next (s.arith8 .sub (.reg .a) (.mem (.athhll hhll)))

/-- `SUB A,[HL]` (R276). -/
def execSubA_atHL (s : State) : Result := .next (s.arith8 .sub (.reg .a) (.mem .atHL))

/-- `SUB A,[IX]` (R277). -/
def execSubA_atIX (s : State) : Result := .next (s.arith8 .sub (.reg .a) (.mem .atIX))

/-- `SUB A,[IY]` (R277). -/
def execSubA_atIY (s : State) : Result := .next (s.arith8 .sub (.reg .a) (.mem .atIY))

/-- `SUB A,[IX+dd]` (R278). -/
def execSubA_atIXdd (dd : Byte) (s : State) : Result := .next (s.arith8 .sub (.reg .a) (.mem (.atIXdd dd)))

/-- `SUB A,[IY+dd]` (R278). -/
def execSubA_atIYdd (dd : Byte) (s : State) : Result := .next (s.arith8 .sub (.reg .a) (.mem (.atIYdd dd)))

/-- `SUB A,[IX+L]` (R279). -/
def execSubA_atIXL (s : State) : Result := .next (s.arith8 .sub (.reg .a) (.mem .atIXL))

/-- `SUB A,[IY+L]` (R279). -/
def execSubA_atIYL (s : State) : Result := .next (s.arith8 .sub (.reg .a) (.mem .atIYL))

/-- `SUB [HL],A` (R280). -/
def execSub_atHL_A (s : State) : Result := .next (s.arith8 .sub (.mem .atHL) (.reg .a))

/-- `SUB [HL],#nn` (R281). -/
def execSub_atHL_imm (nn : Byte) (s : State) : Result := .next (s.arith8 .sub (.mem .atHL) (.imm nn))

/-- `SUB [HL],[IX]` (R282). -/
def execSub_atHL_atIX (s : State) : Result := .next (s.arith8 .sub (.mem .atHL) (.mem .atIX))

/-- `SUB [HL],[IY]` (R282). -/
def execSub_atHL_atIY (s : State) : Result := .next (s.arith8 .sub (.mem .atHL) (.mem .atIY))

/-- `SBC A,A` (R283). -/
def execSbcA_A (s : State) : Result := .next (s.arith8 .sbc (.reg .a) (.reg .a))

/-- `SBC A,B` (R283). -/
def execSbcA_B (s : State) : Result := .next (s.arith8 .sbc (.reg .a) (.reg .b))

/-- `SBC A,#nn` (R284). -/
def execSbcA_imm (nn : Byte) (s : State) : Result := .next (s.arith8 .sbc (.reg .a) (.imm nn))

/-- `SBC A,[BR:ll]` (R285). -/
def execSbcA_atBRll (ll : Byte) (s : State) : Result := .next (s.arith8 .sbc (.reg .a) (.mem (.atBRll ll)))

/-- `SBC A,[hhll]` (R286). -/
def execSbcA_athhll (hhll : Word) (s : State) : Result :=
  .next (s.arith8 .sbc (.reg .a) (.mem (.athhll hhll)))

/-- `SBC A,[HL]` (R287). -/
def execSbcA_atHL (s : State) : Result := .next (s.arith8 .sbc (.reg .a) (.mem .atHL))

/-- `SBC A,[IX]` (R288). -/
def execSbcA_atIX (s : State) : Result := .next (s.arith8 .sbc (.reg .a) (.mem .atIX))

/-- `SBC A,[IY]` (R288). -/
def execSbcA_atIY (s : State) : Result := .next (s.arith8 .sbc (.reg .a) (.mem .atIY))

/-- `SBC A,[IX+dd]` (R289). -/
def execSbcA_atIXdd (dd : Byte) (s : State) : Result := .next (s.arith8 .sbc (.reg .a) (.mem (.atIXdd dd)))

/-- `SBC A,[IY+dd]` (R289). -/
def execSbcA_atIYdd (dd : Byte) (s : State) : Result := .next (s.arith8 .sbc (.reg .a) (.mem (.atIYdd dd)))

/-- `SBC A,[IX+L]` (R290). -/
def execSbcA_atIXL (s : State) : Result := .next (s.arith8 .sbc (.reg .a) (.mem .atIXL))

/-- `SBC A,[IY+L]` (R290). -/
def execSbcA_atIYL (s : State) : Result := .next (s.arith8 .sbc (.reg .a) (.mem .atIYL))

/-- `SBC [HL],A` (R291). -/
def execSbc_atHL_A (s : State) : Result := .next (s.arith8 .sbc (.mem .atHL) (.reg .a))

/-- `SBC [HL],#nn` (R292). -/
def execSbc_atHL_imm (nn : Byte) (s : State) : Result := .next (s.arith8 .sbc (.mem .atHL) (.imm nn))

/-- `SBC [HL],[IX]` (R293). -/
def execSbc_atHL_atIX (s : State) : Result := .next (s.arith8 .sbc (.mem .atHL) (.mem .atIX))

/-- `SBC [HL],[IY]` (R293). -/
def execSbc_atHL_atIY (s : State) : Result := .next (s.arith8 .sbc (.mem .atHL) (.mem .atIY))

/-- `CP A,A` (R294). -/
def execCpA_A (s : State) : Result := .next (s.compare8 (.reg .a) (.reg .a))

/-- `CP A,B` (R294). -/
def execCpA_B (s : State) : Result := .next (s.compare8 (.reg .a) (.reg .b))

/-- `CP A,#nn` (R295). -/
def execCpA_imm (nn : Byte) (s : State) : Result := .next (s.compare8 (.reg .a) (.imm nn))

/-- `CP A,[BR:ll]` (R296). -/
def execCpA_atBRll (ll : Byte) (s : State) : Result := .next (s.compare8 (.reg .a) (.mem (.atBRll ll)))

/-- `CP A,[hhll]` (R297). -/
def execCpA_athhll (hhll : Word) (s : State) : Result := .next (s.compare8 (.reg .a) (.mem (.athhll hhll)))

/-- `CP A,[HL]` (R298). -/
def execCpA_atHL (s : State) : Result := .next (s.compare8 (.reg .a) (.mem .atHL))

/-- `CP A,[IX]` (R299). -/
def execCpA_atIX (s : State) : Result := .next (s.compare8 (.reg .a) (.mem .atIX))

/-- `CP A,[IY]` (R299). -/
def execCpA_atIY (s : State) : Result := .next (s.compare8 (.reg .a) (.mem .atIY))

/-- `CP A,[IX+dd]` (R300). -/
def execCpA_atIXdd (dd : Byte) (s : State) : Result := .next (s.compare8 (.reg .a) (.mem (.atIXdd dd)))

/-- `CP A,[IY+dd]` (R300). -/
def execCpA_atIYdd (dd : Byte) (s : State) : Result := .next (s.compare8 (.reg .a) (.mem (.atIYdd dd)))

/-- `CP A,[IX+L]` (R301). -/
def execCpA_atIXL (s : State) : Result := .next (s.compare8 (.reg .a) (.mem .atIXL))

/-- `CP A,[IY+L]` (R301). -/
def execCpA_atIYL (s : State) : Result := .next (s.compare8 (.reg .a) (.mem .atIYL))

/-- `CP B,#nn` (R302). -/
def execCpB_imm (nn : Byte) (s : State) : Result := .next (s.compare8 (.reg .b) (.imm nn))

/-- `CP L,#nn` (R303). -/
def execCpL_imm (nn : Byte) (s : State) : Result := .next (s.compare8 (.reg .l) (.imm nn))

/-- `CP H,#nn` (R304). -/
def execCpH_imm (nn : Byte) (s : State) : Result := .next (s.compare8 (.reg .h) (.imm nn))

/-- `CP BR,#hh` (R305). -/
def execCpBR_imm (hh : Byte) (s : State) : Result := .next (s.compare8 (.reg .br) (.imm hh))

/-- `CP [BR:ll],#nn` (R306). -/
def execCp_atBRll_imm (ll : Byte) (nn : Byte) (s : State) : Result :=
  .next (s.compare8 (.mem (.atBRll ll)) (.imm nn))

/-- `CP [HL],A` (R307). -/
def execCp_atHL_A (s : State) : Result := .next (s.compare8 (.mem .atHL) (.reg .a))

/-- `CP [HL],#nn` (R308). -/
def execCp_atHL_imm (nn : Byte) (s : State) : Result := .next (s.compare8 (.mem .atHL) (.imm nn))

/-- `CP [HL],[IX]` (R309). -/
def execCp_atHL_atIX (s : State) : Result := .next (s.compare8 (.mem .atHL) (.mem .atIX))

/-- `CP [HL],[IY]` (R309). -/
def execCp_atHL_atIY (s : State) : Result := .next (s.compare8 (.mem .atHL) (.mem .atIY))

/-- `INC A` (R310). -/
def execIncA (s : State) : Result := .next (s.increment8 (.reg .a))

/-- `INC B` (R310). -/
def execIncB (s : State) : Result := .next (s.increment8 (.reg .b))

/-- `INC L` (R310). -/
def execIncL (s : State) : Result := .next (s.increment8 (.reg .l))

/-- `INC H` (R310). -/
def execIncH (s : State) : Result := .next (s.increment8 (.reg .h))

/-- `INC BR` (R311). -/
def execIncBR (s : State) : Result := .next (s.increment8 (.reg .br))

/-- `INC [BR:ll]` (R312). -/
def execInc_atBRll (ll : Byte) (s : State) : Result := .next (s.increment8 (.mem (.atBRll ll)))

/-- `INC [HL]` (R313). -/
def execInc_atHL (s : State) : Result := .next (s.increment8 (.mem .atHL))

/-- `DEC A` (R314). -/
def execDecA (s : State) : Result := .next (s.decrement8 (.reg .a))

/-- `DEC B` (R314). -/
def execDecB (s : State) : Result := .next (s.decrement8 (.reg .b))

/-- `DEC L` (R314). -/
def execDecL (s : State) : Result := .next (s.decrement8 (.reg .l))

/-- `DEC H` (R314). -/
def execDecH (s : State) : Result := .next (s.decrement8 (.reg .h))

/-- `DEC BR` (R315). -/
def execDecBR (s : State) : Result := .next (s.decrement8 (.reg .br))

/-- `DEC [BR:ll]` (R316). -/
def execDec_atBRll (ll : Byte) (s : State) : Result := .next (s.decrement8 (.mem (.atBRll ll)))

/-- `DEC [HL]` (R317). -/
def execDec_atHL (s : State) : Result := .next (s.decrement8 (.mem .atHL))

/-- `NEG A` (R318). -/
def execNegA (s : State) : Result := .next (s.negate8 (.reg .a))

/-- `NEG B` (R318). -/
def execNegB (s : State) : Result := .next (s.negate8 (.reg .b))

/-- `NEG [BR:ll]` (R319). -/
def execNeg_atBRll (ll : Byte) (s : State) : Result := .next (s.negate8 (.mem (.atBRll ll)))

/-- `NEG [HL]` (R320). -/
def execNeg_atHL (s : State) : Result := .next (s.negate8 (.mem .atHL))

/-- `MLT` (R321). -/
def execMlt (s : State) : Result := s.onMulDivModels s.multiply

/-- `DIV` (R322). -/
def execDiv (s : State) : Result := s.onMulDivModels s.divide

end Sys2Proof.Machine
end

