-- ==== Sys2Proof/Machine/Branch.lean ====
section
/-! DEFINITION. Jumps, calls, returns and INT (48_branch.md R544 to R561).
One definition per instruction; each runs with PC at the next instruction (10_state.md R15). -/

namespace Sys2Proof.Machine

/-- `JRS rr` (R544). -/
def execJrs (rr : Byte) (s : State) : Result := .next (s.branchTo (s.rel8 rr))

/-- `JRS C,rr` (R545). -/
def execJrsC (rr : Byte) (s : State) : Result := .next (s.branchIf (s.holds .c) (s.rel8 rr))

/-- `JRS NC,rr` (R545). -/
def execJrsNC (rr : Byte) (s : State) : Result := .next (s.branchIf (s.holds .nc) (s.rel8 rr))

/-- `JRS Z,rr` (R545). -/
def execJrsZ (rr : Byte) (s : State) : Result := .next (s.branchIf (s.holds .z) (s.rel8 rr))

/-- `JRS NZ,rr` (R545). -/
def execJrsNZ (rr : Byte) (s : State) : Result := .next (s.branchIf (s.holds .nz) (s.rel8 rr))

/-- `JRS LT,rr` (R546). -/
def execJrsLT (rr : Byte) (s : State) : Result := .next (s.branchIf (s.holds .lt) (s.rel8 rr))

/-- `JRS LE,rr` (R546). -/
def execJrsLE (rr : Byte) (s : State) : Result := .next (s.branchIf (s.holds .le) (s.rel8 rr))

/-- `JRS GT,rr` (R546). -/
def execJrsGT (rr : Byte) (s : State) : Result := .next (s.branchIf (s.holds .gt) (s.rel8 rr))

/-- `JRS GE,rr` (R546). -/
def execJrsGE (rr : Byte) (s : State) : Result := .next (s.branchIf (s.holds .ge) (s.rel8 rr))

/-- `JRS V,rr` (R546). -/
def execJrsV (rr : Byte) (s : State) : Result := .next (s.branchIf (s.holds .v) (s.rel8 rr))

/-- `JRS NV,rr` (R546). -/
def execJrsNV (rr : Byte) (s : State) : Result := .next (s.branchIf (s.holds .nv) (s.rel8 rr))

/-- `JRS P,rr` (R546). -/
def execJrsP (rr : Byte) (s : State) : Result := .next (s.branchIf (s.holds .p) (s.rel8 rr))

/-- `JRS M,rr` (R546). -/
def execJrsM (rr : Byte) (s : State) : Result := .next (s.branchIf (s.holds .m) (s.rel8 rr))

/-- `JRS F0,rr` (R546). -/
def execJrsF0 (rr : Byte) (s : State) : Result := .next (s.branchIf (s.holds .f0) (s.rel8 rr))

/-- `JRS F1,rr` (R546). -/
def execJrsF1 (rr : Byte) (s : State) : Result := .next (s.branchIf (s.holds .f1) (s.rel8 rr))

/-- `JRS F2,rr` (R546). -/
def execJrsF2 (rr : Byte) (s : State) : Result := .next (s.branchIf (s.holds .f2) (s.rel8 rr))

/-- `JRS F3,rr` (R546). -/
def execJrsF3 (rr : Byte) (s : State) : Result := .next (s.branchIf (s.holds .f3) (s.rel8 rr))

/-- `JRS NF0,rr` (R546). -/
def execJrsNF0 (rr : Byte) (s : State) : Result := .next (s.branchIf (s.holds .nf0) (s.rel8 rr))

/-- `JRS NF1,rr` (R546). -/
def execJrsNF1 (rr : Byte) (s : State) : Result := .next (s.branchIf (s.holds .nf1) (s.rel8 rr))

/-- `JRS NF2,rr` (R546). -/
def execJrsNF2 (rr : Byte) (s : State) : Result := .next (s.branchIf (s.holds .nf2) (s.rel8 rr))

/-- `JRS NF3,rr` (R546). -/
def execJrsNF3 (rr : Byte) (s : State) : Result := .next (s.branchIf (s.holds .nf3) (s.rel8 rr))

/-- `JRL qqrr` (R547). -/
def execJrl (qqrr : Word) (s : State) : Result := .next (s.branchTo (s.rel16 qqrr))

/-- `JRL C,qqrr` (R548). -/
def execJrlC (qqrr : Word) (s : State) : Result := .next (s.branchIf (s.holds .c) (s.rel16 qqrr))

/-- `JRL NC,qqrr` (R548). -/
def execJrlNC (qqrr : Word) (s : State) : Result := .next (s.branchIf (s.holds .nc) (s.rel16 qqrr))

/-- `JRL Z,qqrr` (R548). -/
def execJrlZ (qqrr : Word) (s : State) : Result := .next (s.branchIf (s.holds .z) (s.rel16 qqrr))

/-- `JRL NZ,qqrr` (R548). -/
def execJrlNZ (qqrr : Word) (s : State) : Result := .next (s.branchIf (s.holds .nz) (s.rel16 qqrr))

/-- `DJR NZ,rr` (R549). -/
def execDjrNZ (rr : Byte) (s : State) : Result := .next (s.decrementAndBranch rr)

/-- `JP HL` (R550). -/
def execJpHL (s : State) : Result := .next (s.branchTo (s.reg16 .hl))

/-- `JP [kk]` (R551). -/
def execJp_atkk (kk : Byte) (s : State) : Result := .next (s.branchTo (s.vector kk))

/-- `CARS rr` (R552). -/
def execCars (rr : Byte) (s : State) : Result := .next (s.callTo (s.rel8 rr))

/-- `CARS C,rr` (R553). -/
def execCarsC (rr : Byte) (s : State) : Result := .next (s.callIf (s.holds .c) (s.rel8 rr))

/-- `CARS NC,rr` (R553). -/
def execCarsNC (rr : Byte) (s : State) : Result := .next (s.callIf (s.holds .nc) (s.rel8 rr))

/-- `CARS Z,rr` (R553). -/
def execCarsZ (rr : Byte) (s : State) : Result := .next (s.callIf (s.holds .z) (s.rel8 rr))

/-- `CARS NZ,rr` (R553). -/
def execCarsNZ (rr : Byte) (s : State) : Result := .next (s.callIf (s.holds .nz) (s.rel8 rr))

/-- `CARS LT,rr` (R554). -/
def execCarsLT (rr : Byte) (s : State) : Result := .next (s.callIf (s.holds .lt) (s.rel8 rr))

/-- `CARS LE,rr` (R554). -/
def execCarsLE (rr : Byte) (s : State) : Result := .next (s.callIf (s.holds .le) (s.rel8 rr))

/-- `CARS GT,rr` (R554). -/
def execCarsGT (rr : Byte) (s : State) : Result := .next (s.callIf (s.holds .gt) (s.rel8 rr))

/-- `CARS GE,rr` (R554). -/
def execCarsGE (rr : Byte) (s : State) : Result := .next (s.callIf (s.holds .ge) (s.rel8 rr))

/-- `CARS V,rr` (R554). -/
def execCarsV (rr : Byte) (s : State) : Result := .next (s.callIf (s.holds .v) (s.rel8 rr))

/-- `CARS NV,rr` (R554). -/
def execCarsNV (rr : Byte) (s : State) : Result := .next (s.callIf (s.holds .nv) (s.rel8 rr))

/-- `CARS P,rr` (R554). -/
def execCarsP (rr : Byte) (s : State) : Result := .next (s.callIf (s.holds .p) (s.rel8 rr))

/-- `CARS M,rr` (R554). -/
def execCarsM (rr : Byte) (s : State) : Result := .next (s.callIf (s.holds .m) (s.rel8 rr))

/-- `CARS F0,rr` (R554). -/
def execCarsF0 (rr : Byte) (s : State) : Result := .next (s.callIf (s.holds .f0) (s.rel8 rr))

/-- `CARS F1,rr` (R554). -/
def execCarsF1 (rr : Byte) (s : State) : Result := .next (s.callIf (s.holds .f1) (s.rel8 rr))

/-- `CARS F2,rr` (R554). -/
def execCarsF2 (rr : Byte) (s : State) : Result := .next (s.callIf (s.holds .f2) (s.rel8 rr))

/-- `CARS F3,rr` (R554). -/
def execCarsF3 (rr : Byte) (s : State) : Result := .next (s.callIf (s.holds .f3) (s.rel8 rr))

/-- `CARS NF0,rr` (R554). -/
def execCarsNF0 (rr : Byte) (s : State) : Result := .next (s.callIf (s.holds .nf0) (s.rel8 rr))

/-- `CARS NF1,rr` (R554). -/
def execCarsNF1 (rr : Byte) (s : State) : Result := .next (s.callIf (s.holds .nf1) (s.rel8 rr))

/-- `CARS NF2,rr` (R554). -/
def execCarsNF2 (rr : Byte) (s : State) : Result := .next (s.callIf (s.holds .nf2) (s.rel8 rr))

/-- `CARS NF3,rr` (R554). -/
def execCarsNF3 (rr : Byte) (s : State) : Result := .next (s.callIf (s.holds .nf3) (s.rel8 rr))

/-- `CARL qqrr` (R555). -/
def execCarl (qqrr : Word) (s : State) : Result := .next (s.callTo (s.rel16 qqrr))

/-- `CARL C,qqrr` (R556). -/
def execCarlC (qqrr : Word) (s : State) : Result := .next (s.callIf (s.holds .c) (s.rel16 qqrr))

/-- `CARL NC,qqrr` (R556). -/
def execCarlNC (qqrr : Word) (s : State) : Result := .next (s.callIf (s.holds .nc) (s.rel16 qqrr))

/-- `CARL Z,qqrr` (R556). -/
def execCarlZ (qqrr : Word) (s : State) : Result := .next (s.callIf (s.holds .z) (s.rel16 qqrr))

/-- `CARL NZ,qqrr` (R556). -/
def execCarlNZ (qqrr : Word) (s : State) : Result := .next (s.callIf (s.holds .nz) (s.rel16 qqrr))

/-- `CALL [hhll]` (R557). -/
def execCall_athhll (hhll : Word) (s : State) : Result := .next (s.callIndirect hhll)

/-- `RET` (R558). -/
def execRet (s : State) : Result := .next s.popRet

/-- `RETE` (R559). -/
def execRete (s : State) : Result := .next s.exceptionReturn

/-- `RETS` (R560). -/
def execRets (s : State) : Result := .next (s.popRet.setPC (s.popRet.pc + 2#16))

/-- `INT [kk]` (R561). -/
def execInt_atkk (kk : Byte) (s : State) : Result := .next (s.softwareInterrupt kk)

end Sys2Proof.Machine
end

