-- ==== Sys2Proof/Machine/Logic8.lean ====
section
/-! DEFINITION. 8-bit logic: AND, OR, XOR, BIT, CPL (43_alu8_logic.md R340 to R395).
One definition per instruction; each runs with PC at the next instruction (10_state.md R15). -/

namespace Sys2Proof.Machine

/-- `AND A,A` (R340). -/
def execAndA_A (s : State) : Result := .next (s.logic8 .and (.reg .a) (.reg .a))

/-- `AND A,B` (R340). -/
def execAndA_B (s : State) : Result := .next (s.logic8 .and (.reg .a) (.reg .b))

/-- `AND A,#nn` (R341). -/
def execAndA_imm (nn : Byte) (s : State) : Result := .next (s.logic8 .and (.reg .a) (.imm nn))

/-- `AND A,[BR:ll]` (R342). -/
def execAndA_atBRll (ll : Byte) (s : State) : Result := .next (s.logic8 .and (.reg .a) (.mem (.atBRll ll)))

/-- `AND A,[hhll]` (R343). -/
def execAndA_athhll (hhll : Word) (s : State) : Result :=
  .next (s.logic8 .and (.reg .a) (.mem (.athhll hhll)))

/-- `AND A,[HL]` (R344). -/
def execAndA_atHL (s : State) : Result := .next (s.logic8 .and (.reg .a) (.mem .atHL))

/-- `AND A,[IX]` (R345). -/
def execAndA_atIX (s : State) : Result := .next (s.logic8 .and (.reg .a) (.mem .atIX))

/-- `AND A,[IY]` (R345). -/
def execAndA_atIY (s : State) : Result := .next (s.logic8 .and (.reg .a) (.mem .atIY))

/-- `AND A,[IX+dd]` (R346). -/
def execAndA_atIXdd (dd : Byte) (s : State) : Result := .next (s.logic8 .and (.reg .a) (.mem (.atIXdd dd)))

/-- `AND A,[IY+dd]` (R346). -/
def execAndA_atIYdd (dd : Byte) (s : State) : Result := .next (s.logic8 .and (.reg .a) (.mem (.atIYdd dd)))

/-- `AND A,[IX+L]` (R347). -/
def execAndA_atIXL (s : State) : Result := .next (s.logic8 .and (.reg .a) (.mem .atIXL))

/-- `AND A,[IY+L]` (R347). -/
def execAndA_atIYL (s : State) : Result := .next (s.logic8 .and (.reg .a) (.mem .atIYL))

/-- `AND B,#nn` (R348). -/
def execAndB_imm (nn : Byte) (s : State) : Result := .next (s.logic8 .and (.reg .b) (.imm nn))

/-- `AND L,#nn` (R349). -/
def execAndL_imm (nn : Byte) (s : State) : Result := .next (s.logic8 .and (.reg .l) (.imm nn))

/-- `AND H,#nn` (R350). -/
def execAndH_imm (nn : Byte) (s : State) : Result := .next (s.logic8 .and (.reg .h) (.imm nn))

/-- `AND SC,#nn` (R351). -/
def execAndSC_imm (nn : Byte) (s : State) : Result := .next (s.logicSC .and nn)

/-- `AND [BR:ll],#nn` (R352). -/
def execAnd_atBRll_imm (ll : Byte) (nn : Byte) (s : State) : Result :=
  .next (s.logic8 .and (.mem (.atBRll ll)) (.imm nn))

/-- `AND [HL],A` (R353). -/
def execAnd_atHL_A (s : State) : Result := .next (s.logic8 .and (.mem .atHL) (.reg .a))

/-- `AND [HL],#nn` (R354). -/
def execAnd_atHL_imm (nn : Byte) (s : State) : Result := .next (s.logic8 .and (.mem .atHL) (.imm nn))

/-- `AND [HL],[IX]` (R355). -/
def execAnd_atHL_atIX (s : State) : Result := .next (s.logic8 .and (.mem .atHL) (.mem .atIX))

/-- `AND [HL],[IY]` (R355). -/
def execAnd_atHL_atIY (s : State) : Result := .next (s.logic8 .and (.mem .atHL) (.mem .atIY))

/-- `OR A,A` (R356). -/
def execOrA_A (s : State) : Result := .next (s.logic8 .or (.reg .a) (.reg .a))

/-- `OR A,B` (R356). -/
def execOrA_B (s : State) : Result := .next (s.logic8 .or (.reg .a) (.reg .b))

/-- `OR A,#nn` (R357). -/
def execOrA_imm (nn : Byte) (s : State) : Result := .next (s.logic8 .or (.reg .a) (.imm nn))

/-- `OR A,[BR:ll]` (R358). -/
def execOrA_atBRll (ll : Byte) (s : State) : Result := .next (s.logic8 .or (.reg .a) (.mem (.atBRll ll)))

/-- `OR A,[hhll]` (R359). -/
def execOrA_athhll (hhll : Word) (s : State) : Result := .next (s.logic8 .or (.reg .a) (.mem (.athhll hhll)))

/-- `OR A,[HL]` (R360). -/
def execOrA_atHL (s : State) : Result := .next (s.logic8 .or (.reg .a) (.mem .atHL))

/-- `OR A,[IX]` (R361). -/
def execOrA_atIX (s : State) : Result := .next (s.logic8 .or (.reg .a) (.mem .atIX))

/-- `OR A,[IY]` (R361). -/
def execOrA_atIY (s : State) : Result := .next (s.logic8 .or (.reg .a) (.mem .atIY))

/-- `OR A,[IX+dd]` (R362). -/
def execOrA_atIXdd (dd : Byte) (s : State) : Result := .next (s.logic8 .or (.reg .a) (.mem (.atIXdd dd)))

/-- `OR A,[IY+dd]` (R362). -/
def execOrA_atIYdd (dd : Byte) (s : State) : Result := .next (s.logic8 .or (.reg .a) (.mem (.atIYdd dd)))

/-- `OR A,[IX+L]` (R363). -/
def execOrA_atIXL (s : State) : Result := .next (s.logic8 .or (.reg .a) (.mem .atIXL))

/-- `OR A,[IY+L]` (R363). -/
def execOrA_atIYL (s : State) : Result := .next (s.logic8 .or (.reg .a) (.mem .atIYL))

/-- `OR B,#nn` (R364). -/
def execOrB_imm (nn : Byte) (s : State) : Result := .next (s.logic8 .or (.reg .b) (.imm nn))

/-- `OR L,#nn` (R365). -/
def execOrL_imm (nn : Byte) (s : State) : Result := .next (s.logic8 .or (.reg .l) (.imm nn))

/-- `OR H,#nn` (R366). -/
def execOrH_imm (nn : Byte) (s : State) : Result := .next (s.logic8 .or (.reg .h) (.imm nn))

/-- `OR SC,#nn` (R367). -/
def execOrSC_imm (nn : Byte) (s : State) : Result := .next (s.logicSC .or nn)

/-- `OR [BR:ll],#nn` (R368). -/
def execOr_atBRll_imm (ll : Byte) (nn : Byte) (s : State) : Result :=
  .next (s.logic8 .or (.mem (.atBRll ll)) (.imm nn))

/-- `OR [HL],A` (R369). -/
def execOr_atHL_A (s : State) : Result := .next (s.logic8 .or (.mem .atHL) (.reg .a))

/-- `OR [HL],#nn` (R370). -/
def execOr_atHL_imm (nn : Byte) (s : State) : Result := .next (s.logic8 .or (.mem .atHL) (.imm nn))

/-- `OR [HL],[IX]` (R371). -/
def execOr_atHL_atIX (s : State) : Result := .next (s.logic8 .or (.mem .atHL) (.mem .atIX))

/-- `OR [HL],[IY]` (R371). -/
def execOr_atHL_atIY (s : State) : Result := .next (s.logic8 .or (.mem .atHL) (.mem .atIY))

/-- `XOR A,A` (R372). -/
def execXorA_A (s : State) : Result := .next (s.logic8 .xor (.reg .a) (.reg .a))

/-- `XOR A,B` (R372). -/
def execXorA_B (s : State) : Result := .next (s.logic8 .xor (.reg .a) (.reg .b))

/-- `XOR A,#nn` (R373). -/
def execXorA_imm (nn : Byte) (s : State) : Result := .next (s.logic8 .xor (.reg .a) (.imm nn))

/-- `XOR A,[BR:ll]` (R374). -/
def execXorA_atBRll (ll : Byte) (s : State) : Result := .next (s.logic8 .xor (.reg .a) (.mem (.atBRll ll)))

/-- `XOR A,[hhll]` (R375). -/
def execXorA_athhll (hhll : Word) (s : State) : Result :=
  .next (s.logic8 .xor (.reg .a) (.mem (.athhll hhll)))

/-- `XOR A,[HL]` (R376). -/
def execXorA_atHL (s : State) : Result := .next (s.logic8 .xor (.reg .a) (.mem .atHL))

/-- `XOR A,[IX]` (R377). -/
def execXorA_atIX (s : State) : Result := .next (s.logic8 .xor (.reg .a) (.mem .atIX))

/-- `XOR A,[IY]` (R377). -/
def execXorA_atIY (s : State) : Result := .next (s.logic8 .xor (.reg .a) (.mem .atIY))

/-- `XOR A,[IX+dd]` (R378). -/
def execXorA_atIXdd (dd : Byte) (s : State) : Result := .next (s.logic8 .xor (.reg .a) (.mem (.atIXdd dd)))

/-- `XOR A,[IY+dd]` (R378). -/
def execXorA_atIYdd (dd : Byte) (s : State) : Result := .next (s.logic8 .xor (.reg .a) (.mem (.atIYdd dd)))

/-- `XOR A,[IX+L]` (R379). -/
def execXorA_atIXL (s : State) : Result := .next (s.logic8 .xor (.reg .a) (.mem .atIXL))

/-- `XOR A,[IY+L]` (R379). -/
def execXorA_atIYL (s : State) : Result := .next (s.logic8 .xor (.reg .a) (.mem .atIYL))

/-- `XOR B,#nn` (R380). -/
def execXorB_imm (nn : Byte) (s : State) : Result := .next (s.logic8 .xor (.reg .b) (.imm nn))

/-- `XOR L,#nn` (R381). -/
def execXorL_imm (nn : Byte) (s : State) : Result := .next (s.logic8 .xor (.reg .l) (.imm nn))

/-- `XOR H,#nn` (R382). -/
def execXorH_imm (nn : Byte) (s : State) : Result := .next (s.logic8 .xor (.reg .h) (.imm nn))

/-- `XOR SC,#nn` (R383). -/
def execXorSC_imm (nn : Byte) (s : State) : Result := .next (s.logicSC .xor nn)

/-- `XOR [BR:ll],#nn` (R384). -/
def execXor_atBRll_imm (ll : Byte) (nn : Byte) (s : State) : Result :=
  .next (s.logic8 .xor (.mem (.atBRll ll)) (.imm nn))

/-- `XOR [HL],A` (R385). -/
def execXor_atHL_A (s : State) : Result := .next (s.logic8 .xor (.mem .atHL) (.reg .a))

/-- `XOR [HL],#nn` (R386). -/
def execXor_atHL_imm (nn : Byte) (s : State) : Result := .next (s.logic8 .xor (.mem .atHL) (.imm nn))

/-- `XOR [HL],[IX]` (R387). -/
def execXor_atHL_atIX (s : State) : Result := .next (s.logic8 .xor (.mem .atHL) (.mem .atIX))

/-- `XOR [HL],[IY]` (R387). -/
def execXor_atHL_atIY (s : State) : Result := .next (s.logic8 .xor (.mem .atHL) (.mem .atIY))

/-- `BIT A,B` (R388). -/
def execBitA_B (s : State) : Result := .next (s.testBits (.reg .a) (.reg .b))

/-- `BIT A,#nn` (R389). -/
def execBitA_imm (nn : Byte) (s : State) : Result := .next (s.testBits (.reg .a) (.imm nn))

/-- `BIT B,#nn` (R390). -/
def execBitB_imm (nn : Byte) (s : State) : Result := .next (s.testBits (.reg .b) (.imm nn))

/-- `BIT [BR:ll],#nn` (R391). -/
def execBit_atBRll_imm (ll : Byte) (nn : Byte) (s : State) : Result :=
  .next (s.testBits (.mem (.atBRll ll)) (.imm nn))

/-- `BIT [HL],#nn` (R392). -/
def execBit_atHL_imm (nn : Byte) (s : State) : Result := .next (s.testBits (.mem .atHL) (.imm nn))

/-- `CPL A` (R393). -/
def execCplA (s : State) : Result := .next (s.complement8 (.reg .a))

/-- `CPL B` (R393). -/
def execCplB (s : State) : Result := .next (s.complement8 (.reg .b))

/-- `CPL [BR:ll]` (R394). -/
def execCpl_atBRll (ll : Byte) (s : State) : Result := .next (s.complement8 (.mem (.atBRll ll)))

/-- `CPL [HL]` (R395). -/
def execCpl_atHL (s : State) : Result := .next (s.complement8 (.mem .atHL))

end Sys2Proof.Machine
end

