-- ==== Sys2Proof/Machine/Pack.lean ====
section
/-! DEFINITION. PACK, UPCK, SEP (45_aux.md R460 to R462).
One definition per instruction; each runs with PC at the next instruction (10_state.md R15). -/

namespace Sys2Proof.Machine

/-- `PACK` (R460). -/
def execPack (s : State) : Result := .next s.pack

/-- `UPCK` (R461). -/
def execUpck (s : State) : Result := .next s.unpack

/-- `SEP` (R462). -/
def execSep (s : State) : Result := .next s.signExpand

end Sys2Proof.Machine
end

