-- ==== Sys2Proof/Machine/Rotate.lean ====
section
/-! DEFINITION. Rotates and shifts (46_rotate_shift.md R470 to R493).
One definition per instruction; each runs with PC at the next instruction (10_state.md R15). -/

namespace Sys2Proof.Machine

/-- `RL A` (R470). -/
def execRlA (s : State) : Result := .next (s.shift8 .rl (.reg .a))

/-- `RL B` (R470). -/
def execRlB (s : State) : Result := .next (s.shift8 .rl (.reg .b))

/-- `RL [BR:ll]` (R471). -/
def execRl_atBRll (ll : Byte) (s : State) : Result := .next (s.shift8 .rl (.mem (.atBRll ll)))

/-- `RL [HL]` (R472). -/
def execRl_atHL (s : State) : Result := .next (s.shift8 .rl (.mem .atHL))

/-- `RLC A` (R473). -/
def execRlcA (s : State) : Result := .next (s.shift8 .rlc (.reg .a))

/-- `RLC B` (R473). -/
def execRlcB (s : State) : Result := .next (s.shift8 .rlc (.reg .b))

/-- `RLC [BR:ll]` (R474). -/
def execRlc_atBRll (ll : Byte) (s : State) : Result := .next (s.shift8 .rlc (.mem (.atBRll ll)))

/-- `RLC [HL]` (R475). -/
def execRlc_atHL (s : State) : Result := .next (s.shift8 .rlc (.mem .atHL))

/-- `RR A` (R476). -/
def execRrA (s : State) : Result := .next (s.shift8 .rr (.reg .a))

/-- `RR B` (R476). -/
def execRrB (s : State) : Result := .next (s.shift8 .rr (.reg .b))

/-- `RR [BR:ll]` (R477). -/
def execRr_atBRll (ll : Byte) (s : State) : Result := .next (s.shift8 .rr (.mem (.atBRll ll)))

/-- `RR [HL]` (R478). -/
def execRr_atHL (s : State) : Result := .next (s.shift8 .rr (.mem .atHL))

/-- `RRC A` (R479). -/
def execRrcA (s : State) : Result := .next (s.shift8 .rrc (.reg .a))

/-- `RRC B` (R479). -/
def execRrcB (s : State) : Result := .next (s.shift8 .rrc (.reg .b))

/-- `RRC [BR:ll]` (R480). -/
def execRrc_atBRll (ll : Byte) (s : State) : Result := .next (s.shift8 .rrc (.mem (.atBRll ll)))

/-- `RRC [HL]` (R481). -/
def execRrc_atHL (s : State) : Result := .next (s.shift8 .rrc (.mem .atHL))

/-- `SLA A` (R482). -/
def execSlaA (s : State) : Result := .next (s.shift8 .sla (.reg .a))

/-- `SLA B` (R482). -/
def execSlaB (s : State) : Result := .next (s.shift8 .sla (.reg .b))

/-- `SLA [BR:ll]` (R483). -/
def execSla_atBRll (ll : Byte) (s : State) : Result := .next (s.shift8 .sla (.mem (.atBRll ll)))

/-- `SLA [HL]` (R484). -/
def execSla_atHL (s : State) : Result := .next (s.shift8 .sla (.mem .atHL))

/-- `SLL A` (R485). -/
def execSllA (s : State) : Result := .next (s.shift8 .sll (.reg .a))

/-- `SLL B` (R485). -/
def execSllB (s : State) : Result := .next (s.shift8 .sll (.reg .b))

/-- `SLL [BR:ll]` (R486). -/
def execSll_atBRll (ll : Byte) (s : State) : Result := .next (s.shift8 .sll (.mem (.atBRll ll)))

/-- `SLL [HL]` (R487). -/
def execSll_atHL (s : State) : Result := .next (s.shift8 .sll (.mem .atHL))

/-- `SRA A` (R488). -/
def execSraA (s : State) : Result := .next (s.shift8 .sra (.reg .a))

/-- `SRA B` (R488). -/
def execSraB (s : State) : Result := .next (s.shift8 .sra (.reg .b))

/-- `SRA [BR:ll]` (R489). -/
def execSra_atBRll (ll : Byte) (s : State) : Result := .next (s.shift8 .sra (.mem (.atBRll ll)))

/-- `SRA [HL]` (R490). -/
def execSra_atHL (s : State) : Result := .next (s.shift8 .sra (.mem .atHL))

/-- `SRL A` (R491). -/
def execSrlA (s : State) : Result := .next (s.shift8 .srl (.reg .a))

/-- `SRL B` (R491). -/
def execSrlB (s : State) : Result := .next (s.shift8 .srl (.reg .b))

/-- `SRL [BR:ll]` (R492). -/
def execSrl_atBRll (ll : Byte) (s : State) : Result := .next (s.shift8 .srl (.mem (.atBRll ll)))

/-- `SRL [HL]` (R493). -/
def execSrl_atHL (s : State) : Result := .next (s.shift8 .srl (.mem .atHL))

end Sys2Proof.Machine
end

