-- ==== Sys2Proof/Machine/Stack.lean ====
section
/-! DEFINITION. PUSH and POP (47_stack.md R510 to R525).
One definition per instruction; each runs with PC at the next instruction (10_state.md R15). -/

namespace Sys2Proof.Machine

/-- `PUSH A` (R510). -/
def execPushA (s : State) : Result := .next (s.push8 s.a)

/-- `PUSH B` (R510). -/
def execPushB (s : State) : Result := .next (s.push8 s.b)

/-- `PUSH L` (R510). -/
def execPushL (s : State) : Result := .next (s.push8 s.l)

/-- `PUSH H` (R510). -/
def execPushH (s : State) : Result := .next (s.push8 s.h)

/-- `PUSH BA` (R511). -/
def execPushBA (s : State) : Result := .next (s.push16 (s.reg16 .ba))

/-- `PUSH HL` (R511). -/
def execPushHL (s : State) : Result := .next (s.push16 (s.reg16 .hl))

/-- `PUSH IX` (R511). -/
def execPushIX (s : State) : Result := .next (s.push16 (s.reg16 .ix))

/-- `PUSH IY` (R511). -/
def execPushIY (s : State) : Result := .next (s.push16 (s.reg16 .iy))

/-- `PUSH BR` (R512). -/
def execPushBR (s : State) : Result := .next (s.push8 s.br)

/-- `PUSH EP` (R513). -/
def execPushEP (s : State) : Result := s.onBankModels (s.push8 s.ep)

/-- `PUSH IP` (R514). -/
def execPushIP (s : State) : Result := s.onBankModels (s.pushIP)

/-- `PUSH SC` (R515). -/
def execPushSC (s : State) : Result := .next (s.push8 s.sc)

/-- `PUSH ALL` (R516). -/
def execPushALL (s : State) : Result := .next s.pushAll

/-- `PUSH ALE` (R517). -/
def execPushALE (s : State) : Result := s.onBankModels (s.pushAllExtended)

/-- `POP A` (R518). -/
def execPopA (s : State) : Result := .next (s.popReg8 .a)

/-- `POP B` (R518). -/
def execPopB (s : State) : Result := .next (s.popReg8 .b)

/-- `POP L` (R518). -/
def execPopL (s : State) : Result := .next (s.popReg8 .l)

/-- `POP H` (R518). -/
def execPopH (s : State) : Result := .next (s.popReg8 .h)

/-- `POP BA` (R519). -/
def execPopBA (s : State) : Result := .next (s.popReg16 .ba)

/-- `POP HL` (R519). -/
def execPopHL (s : State) : Result := .next (s.popReg16 .hl)

/-- `POP IX` (R519). -/
def execPopIX (s : State) : Result := .next (s.popReg16 .ix)

/-- `POP IY` (R519). -/
def execPopIY (s : State) : Result := .next (s.popReg16 .iy)

/-- `POP BR` (R520). -/
def execPopBR (s : State) : Result := .next (s.popReg8 .br)

/-- `POP EP` (R521). -/
def execPopEP (s : State) : Result := s.onBankModels (s.popReg8 .ep)

/-- `POP IP` (R522). -/
def execPopIP (s : State) : Result := s.onBankModels (s.popIP)

/-- `POP SC` (R523). -/
def execPopSC (s : State) : Result := .next ((s.popReg8 .sc).holdInterrupts)

/-- `POP ALL` (R524). -/
def execPopALL (s : State) : Result := .next s.popAll

/-- `POP ALE` (R525). -/
def execPopALE (s : State) : Result := s.onBankModels (s.popAllExtended)

end Sys2Proof.Machine
end

