-- ==== Sys2Proof/Machine/System.lean ====
section
/-! DEFINITION. NOP, HALT, SLP (49_system.md R580 to R582).
One definition per instruction; each runs with PC at the next instruction (10_state.md R15). -/

namespace Sys2Proof.Machine

/-- `NOP` (R580). -/
def execNop (s : State) : Result := .next s

/-- `HALT` (R581). -/
def execHalt (s : State) : Result := .next ({ s with runState := .halted })

/-- `SLP` (R582). -/
def execSlp (s : State) : Result := .next ({ s with runState := .sleeping })

end Sys2Proof.Machine
end

