-- ==== Sys2Proof/Machine/Transfer16.lean ====
section
/-! DEFINITION. The 16-bit transfers: LD, EX BA (41_transfer16.md R210 to R232).
One definition per instruction; each runs with PC at the next instruction (10_state.md R15). -/

namespace Sys2Proof.Machine

/-- `LD BA,BA` (R210). -/
def execLdBA_BA (s : State) : Result := .next (s.load16 (.reg .ba) (.reg .ba))

/-- `LD BA,HL` (R210). -/
def execLdBA_HL (s : State) : Result := .next (s.load16 (.reg .ba) (.reg .hl))

/-- `LD BA,IX` (R210). -/
def execLdBA_IX (s : State) : Result := .next (s.load16 (.reg .ba) (.reg .ix))

/-- `LD BA,IY` (R210). -/
def execLdBA_IY (s : State) : Result := .next (s.load16 (.reg .ba) (.reg .iy))

/-- `LD HL,BA` (R210). -/
def execLdHL_BA (s : State) : Result := .next (s.load16 (.reg .hl) (.reg .ba))

/-- `LD HL,HL` (R210). -/
def execLdHL_HL (s : State) : Result := .next (s.load16 (.reg .hl) (.reg .hl))

/-- `LD HL,IX` (R210). -/
def execLdHL_IX (s : State) : Result := .next (s.load16 (.reg .hl) (.reg .ix))

/-- `LD HL,IY` (R210). -/
def execLdHL_IY (s : State) : Result := .next (s.load16 (.reg .hl) (.reg .iy))

/-- `LD IX,BA` (R210). -/
def execLdIX_BA (s : State) : Result := .next (s.load16 (.reg .ix) (.reg .ba))

/-- `LD IX,HL` (R210). -/
def execLdIX_HL (s : State) : Result := .next (s.load16 (.reg .ix) (.reg .hl))

/-- `LD IX,IX` (R210). -/
def execLdIX_IX (s : State) : Result := .next (s.load16 (.reg .ix) (.reg .ix))

/-- `LD IX,IY` (R210). -/
def execLdIX_IY (s : State) : Result := .next (s.load16 (.reg .ix) (.reg .iy))

/-- `LD IY,BA` (R210). -/
def execLdIY_BA (s : State) : Result := .next (s.load16 (.reg .iy) (.reg .ba))

/-- `LD IY,HL` (R210). -/
def execLdIY_HL (s : State) : Result := .next (s.load16 (.reg .iy) (.reg .hl))

/-- `LD IY,IX` (R210). -/
def execLdIY_IX (s : State) : Result := .next (s.load16 (.reg .iy) (.reg .ix))

/-- `LD IY,IY` (R210). -/
def execLdIY_IY (s : State) : Result := .next (s.load16 (.reg .iy) (.reg .iy))

/-- `LD BA,PC` (R211). -/
def execLdBA_PC (s : State) : Result := .next (s.load16 (.reg .ba) .pc)

/-- `LD BA,SP` (R212). -/
def execLdBA_SP (s : State) : Result := .next (s.load16 (.reg .ba) (.reg .sp))

/-- `LD HL,PC` (R213). -/
def execLdHL_PC (s : State) : Result := .next (s.load16 (.reg .hl) .pc)

/-- `LD HL,SP` (R214). -/
def execLdHL_SP (s : State) : Result := .next (s.load16 (.reg .hl) (.reg .sp))

/-- `LD IX,SP` (R215). -/
def execLdIX_SP (s : State) : Result := .next (s.load16 (.reg .ix) (.reg .sp))

/-- `LD IY,SP` (R216). -/
def execLdIY_SP (s : State) : Result := .next (s.load16 (.reg .iy) (.reg .sp))

/-- `LD SP,BA` (R217). -/
def execLdSP_BA (s : State) : Result := .next (s.load16 (.reg .sp) (.reg .ba))

/-- `LD SP,HL` (R217). -/
def execLdSP_HL (s : State) : Result := .next (s.load16 (.reg .sp) (.reg .hl))

/-- `LD SP,IX` (R217). -/
def execLdSP_IX (s : State) : Result := .next (s.load16 (.reg .sp) (.reg .ix))

/-- `LD SP,IY` (R217). -/
def execLdSP_IY (s : State) : Result := .next (s.load16 (.reg .sp) (.reg .iy))

/-- `LD BA,#mmnn` (R218). -/
def execLdBA_imm (mmnn : Word) (s : State) : Result := .next (s.load16 (.reg .ba) (.imm mmnn))

/-- `LD HL,#mmnn` (R218). -/
def execLdHL_imm (mmnn : Word) (s : State) : Result := .next (s.load16 (.reg .hl) (.imm mmnn))

/-- `LD IX,#mmnn` (R218). -/
def execLdIX_imm (mmnn : Word) (s : State) : Result := .next (s.load16 (.reg .ix) (.imm mmnn))

/-- `LD IY,#mmnn` (R218). -/
def execLdIY_imm (mmnn : Word) (s : State) : Result := .next (s.load16 (.reg .iy) (.imm mmnn))

/-- `LD SP,#mmnn` (R219). -/
def execLdSP_imm (mmnn : Word) (s : State) : Result := .next (s.load16 (.reg .sp) (.imm mmnn))

/-- `LD BA,[hhll]` (R220). -/
def execLdBA_athhll (hhll : Word) (s : State) : Result := .next (s.load16 (.reg .ba) (.mem (.athhll hhll)))

/-- `LD HL,[hhll]` (R220). -/
def execLdHL_athhll (hhll : Word) (s : State) : Result := .next (s.load16 (.reg .hl) (.mem (.athhll hhll)))

/-- `LD IX,[hhll]` (R220). -/
def execLdIX_athhll (hhll : Word) (s : State) : Result := .next (s.load16 (.reg .ix) (.mem (.athhll hhll)))

/-- `LD IY,[hhll]` (R220). -/
def execLdIY_athhll (hhll : Word) (s : State) : Result := .next (s.load16 (.reg .iy) (.mem (.athhll hhll)))

/-- `LD SP,[hhll]` (R221). -/
def execLdSP_athhll (hhll : Word) (s : State) : Result := .next (s.load16 (.reg .sp) (.mem (.athhll hhll)))

/-- `LD BA,[HL]` (R222). -/
def execLdBA_atHL (s : State) : Result := .next (s.load16 (.reg .ba) (.mem .atHL))

/-- `LD HL,[HL]` (R222). -/
def execLdHL_atHL (s : State) : Result := .next (s.load16 (.reg .hl) (.mem .atHL))

/-- `LD IX,[HL]` (R222). -/
def execLdIX_atHL (s : State) : Result := .next (s.load16 (.reg .ix) (.mem .atHL))

/-- `LD IY,[HL]` (R222). -/
def execLdIY_atHL (s : State) : Result := .next (s.load16 (.reg .iy) (.mem .atHL))

/-- `LD BA,[IX]` (R223). -/
def execLdBA_atIX (s : State) : Result := .next (s.load16 (.reg .ba) (.mem .atIX))

/-- `LD HL,[IX]` (R223). -/
def execLdHL_atIX (s : State) : Result := .next (s.load16 (.reg .hl) (.mem .atIX))

/-- `LD IX,[IX]` (R223). -/
def execLdIX_atIX (s : State) : Result := .next (s.load16 (.reg .ix) (.mem .atIX))

/-- `LD IY,[IX]` (R223). -/
def execLdIY_atIX (s : State) : Result := .next (s.load16 (.reg .iy) (.mem .atIX))

/-- `LD BA,[IY]` (R224). -/
def execLdBA_atIY (s : State) : Result := .next (s.load16 (.reg .ba) (.mem .atIY))

/-- `LD HL,[IY]` (R224). -/
def execLdHL_atIY (s : State) : Result := .next (s.load16 (.reg .hl) (.mem .atIY))

/-- `LD IX,[IY]` (R224). -/
def execLdIX_atIY (s : State) : Result := .next (s.load16 (.reg .ix) (.mem .atIY))

/-- `LD IY,[IY]` (R224). -/
def execLdIY_atIY (s : State) : Result := .next (s.load16 (.reg .iy) (.mem .atIY))

/-- `LD BA,[SP+dd]` (R225). -/
def execLdBA_atSPdd (dd : Byte) (s : State) : Result := .next (s.load16 (.reg .ba) (.mem (.atSPdd dd)))

/-- `LD HL,[SP+dd]` (R225). -/
def execLdHL_atSPdd (dd : Byte) (s : State) : Result := .next (s.load16 (.reg .hl) (.mem (.atSPdd dd)))

/-- `LD IX,[SP+dd]` (R225). -/
def execLdIX_atSPdd (dd : Byte) (s : State) : Result := .next (s.load16 (.reg .ix) (.mem (.atSPdd dd)))

/-- `LD IY,[SP+dd]` (R225). -/
def execLdIY_atSPdd (dd : Byte) (s : State) : Result := .next (s.load16 (.reg .iy) (.mem (.atSPdd dd)))

/-- `LD [hhll],BA` (R226). -/
def execLd_athhll_BA (hhll : Word) (s : State) : Result := .next (s.load16 (.mem (.athhll hhll)) (.reg .ba))

/-- `LD [hhll],HL` (R226). -/
def execLd_athhll_HL (hhll : Word) (s : State) : Result := .next (s.load16 (.mem (.athhll hhll)) (.reg .hl))

/-- `LD [hhll],IX` (R226). -/
def execLd_athhll_IX (hhll : Word) (s : State) : Result := .next (s.load16 (.mem (.athhll hhll)) (.reg .ix))

/-- `LD [hhll],IY` (R226). -/
def execLd_athhll_IY (hhll : Word) (s : State) : Result := .next (s.load16 (.mem (.athhll hhll)) (.reg .iy))

/-- `LD [hhll],SP` (R227). -/
def execLd_athhll_SP (hhll : Word) (s : State) : Result := .next (s.load16 (.mem (.athhll hhll)) (.reg .sp))

/-- `LD [HL],BA` (R228). -/
def execLd_atHL_BA (s : State) : Result := .next (s.load16 (.mem .atHL) (.reg .ba))

/-- `LD [HL],HL` (R228). -/
def execLd_atHL_HL (s : State) : Result := .next (s.load16 (.mem .atHL) (.reg .hl))

/-- `LD [HL],IX` (R228). -/
def execLd_atHL_IX (s : State) : Result := .next (s.load16 (.mem .atHL) (.reg .ix))

/-- `LD [HL],IY` (R228). -/
def execLd_atHL_IY (s : State) : Result := .next (s.load16 (.mem .atHL) (.reg .iy))

/-- `LD [IX],BA` (R229). -/
def execLd_atIX_BA (s : State) : Result := .next (s.load16 (.mem .atIX) (.reg .ba))

/-- `LD [IX],HL` (R229). -/
def execLd_atIX_HL (s : State) : Result := .next (s.load16 (.mem .atIX) (.reg .hl))

/-- `LD [IX],IX` (R229). -/
def execLd_atIX_IX (s : State) : Result := .next (s.load16 (.mem .atIX) (.reg .ix))

/-- `LD [IX],IY` (R229). -/
def execLd_atIX_IY (s : State) : Result := .next (s.load16 (.mem .atIX) (.reg .iy))

/-- `LD [IY],BA` (R230). -/
def execLd_atIY_BA (s : State) : Result := .next (s.load16 (.mem .atIY) (.reg .ba))

/-- `LD [IY],HL` (R230). -/
def execLd_atIY_HL (s : State) : Result := .next (s.load16 (.mem .atIY) (.reg .hl))

/-- `LD [IY],IX` (R230). -/
def execLd_atIY_IX (s : State) : Result := .next (s.load16 (.mem .atIY) (.reg .ix))

/-- `LD [IY],IY` (R230). -/
def execLd_atIY_IY (s : State) : Result := .next (s.load16 (.mem .atIY) (.reg .iy))

/-- `LD [SP+dd],BA` (R231). -/
def execLd_atSPdd_BA (dd : Byte) (s : State) : Result := .next (s.load16 (.mem (.atSPdd dd)) (.reg .ba))

/-- `LD [SP+dd],HL` (R231). -/
def execLd_atSPdd_HL (dd : Byte) (s : State) : Result := .next (s.load16 (.mem (.atSPdd dd)) (.reg .hl))

/-- `LD [SP+dd],IX` (R231). -/
def execLd_atSPdd_IX (dd : Byte) (s : State) : Result := .next (s.load16 (.mem (.atSPdd dd)) (.reg .ix))

/-- `LD [SP+dd],IY` (R231). -/
def execLd_atSPdd_IY (dd : Byte) (s : State) : Result := .next (s.load16 (.mem (.atSPdd dd)) (.reg .iy))

/-- `EX BA,HL` (R232). -/
def execExBA_HL (s : State) : Result := .next (s.exchange16 (.reg .ba) (.reg .hl))

/-- `EX BA,IX` (R232). -/
def execExBA_IX (s : State) : Result := .next (s.exchange16 (.reg .ba) (.reg .ix))

/-- `EX BA,IY` (R232). -/
def execExBA_IY (s : State) : Result := .next (s.exchange16 (.reg .ba) (.reg .iy))

/-- `EX BA,SP` (R232). -/
def execExBA_SP (s : State) : Result := .next (s.exchange16 (.reg .ba) (.reg .sp))

end Sys2Proof.Machine
end

