-- ==== Sys2Proof/Machine/Transfer8.lean ====
section
/-! DEFINITION. The 8-bit transfers: LD, EX A, SWAP (40_transfer8.md R130 to R186).
One definition per instruction; each runs with PC at the next instruction (10_state.md R15). -/

namespace Sys2Proof.Machine

/-- `LD A,A` (R130). -/
def execLdA_A (s : State) : Result := .next (s.load8 (.reg .a) (.reg .a))

/-- `LD A,B` (R130). -/
def execLdA_B (s : State) : Result := .next (s.load8 (.reg .a) (.reg .b))

/-- `LD A,L` (R130). -/
def execLdA_L (s : State) : Result := .next (s.load8 (.reg .a) (.reg .l))

/-- `LD A,H` (R130). -/
def execLdA_H (s : State) : Result := .next (s.load8 (.reg .a) (.reg .h))

/-- `LD B,A` (R130). -/
def execLdB_A (s : State) : Result := .next (s.load8 (.reg .b) (.reg .a))

/-- `LD B,B` (R130). -/
def execLdB_B (s : State) : Result := .next (s.load8 (.reg .b) (.reg .b))

/-- `LD B,L` (R130). -/
def execLdB_L (s : State) : Result := .next (s.load8 (.reg .b) (.reg .l))

/-- `LD B,H` (R130). -/
def execLdB_H (s : State) : Result := .next (s.load8 (.reg .b) (.reg .h))

/-- `LD L,A` (R130). -/
def execLdL_A (s : State) : Result := .next (s.load8 (.reg .l) (.reg .a))

/-- `LD L,B` (R130). -/
def execLdL_B (s : State) : Result := .next (s.load8 (.reg .l) (.reg .b))

/-- `LD L,L` (R130). -/
def execLdL_L (s : State) : Result := .next (s.load8 (.reg .l) (.reg .l))

/-- `LD L,H` (R130). -/
def execLdL_H (s : State) : Result := .next (s.load8 (.reg .l) (.reg .h))

/-- `LD H,A` (R130). -/
def execLdH_A (s : State) : Result := .next (s.load8 (.reg .h) (.reg .a))

/-- `LD H,B` (R130). -/
def execLdH_B (s : State) : Result := .next (s.load8 (.reg .h) (.reg .b))

/-- `LD H,L` (R130). -/
def execLdH_L (s : State) : Result := .next (s.load8 (.reg .h) (.reg .l))

/-- `LD H,H` (R130). -/
def execLdH_H (s : State) : Result := .next (s.load8 (.reg .h) (.reg .h))

/-- `LD A,BR` (R131). -/
def execLdA_BR (s : State) : Result := .next (s.load8 (.reg .a) (.reg .br))

/-- `LD A,SC` (R132). -/
def execLdA_SC (s : State) : Result := .next (s.load8 (.reg .a) (.reg .sc))

/-- `LD BR,A` (R133). -/
def execLdBR_A (s : State) : Result := .next (s.load8 (.reg .br) (.reg .a))

/-- `LD SC,A` (R134). -/
def execLdSC_A (s : State) : Result := .next ((s.load8 (.reg .sc) (.reg .a)).holdInterrupts)

/-- `LD NB,#bb` (R135). -/
def execLdNB_imm (bb : Byte) (s : State) : Result :=
  s.onBankModels ((s.load8 (.reg .nb) (.imm bb)).holdInterrupts)

/-- `LD EP,#pp` (R136). -/
def execLdEP_imm (pp : Byte) (s : State) : Result := s.onBankModels (s.load8 (.reg .ep) (.imm pp))

/-- `LD XP,#pp` (R137). -/
def execLdXP_imm (pp : Byte) (s : State) : Result := s.onBankModels (s.load8 (.reg .xp) (.imm pp))

/-- `LD YP,#pp` (R138). -/
def execLdYP_imm (pp : Byte) (s : State) : Result := s.onBankModels (s.load8 (.reg .yp) (.imm pp))

/-- `LD A,NB` (R139). -/
def execLdA_NB (s : State) : Result := s.onBankModels (s.load8 (.reg .a) (.reg .nb))

/-- `LD A,EP` (R139). -/
def execLdA_EP (s : State) : Result := s.onBankModels (s.load8 (.reg .a) (.reg .ep))

/-- `LD A,XP` (R139). -/
def execLdA_XP (s : State) : Result := s.onBankModels (s.load8 (.reg .a) (.reg .xp))

/-- `LD A,YP` (R139). -/
def execLdA_YP (s : State) : Result := s.onBankModels (s.load8 (.reg .a) (.reg .yp))

/-- `LD NB,A` (R140). -/
def execLdNB_A (s : State) : Result := s.onBankModels ((s.load8 (.reg .nb) (.reg .a)).holdInterrupts)

/-- `LD EP,A` (R140). -/
def execLdEP_A (s : State) : Result := s.onBankModels (s.load8 (.reg .ep) (.reg .a))

/-- `LD XP,A` (R140). -/
def execLdXP_A (s : State) : Result := s.onBankModels (s.load8 (.reg .xp) (.reg .a))

/-- `LD YP,A` (R140). -/
def execLdYP_A (s : State) : Result := s.onBankModels (s.load8 (.reg .yp) (.reg .a))

/-- `LD A,#nn` (R141). -/
def execLdA_imm (nn : Byte) (s : State) : Result := .next (s.load8 (.reg .a) (.imm nn))

/-- `LD B,#nn` (R141). -/
def execLdB_imm (nn : Byte) (s : State) : Result := .next (s.load8 (.reg .b) (.imm nn))

/-- `LD L,#nn` (R141). -/
def execLdL_imm (nn : Byte) (s : State) : Result := .next (s.load8 (.reg .l) (.imm nn))

/-- `LD H,#nn` (R141). -/
def execLdH_imm (nn : Byte) (s : State) : Result := .next (s.load8 (.reg .h) (.imm nn))

/-- `LD BR,#hh` (R142). -/
def execLdBR_imm (hh : Byte) (s : State) : Result := .next (s.load8 (.reg .br) (.imm hh))

/-- `LD SC,#nn` (R143). -/
def execLdSC_imm (nn : Byte) (s : State) : Result := .next ((s.load8 (.reg .sc) (.imm nn)).holdInterrupts)

/-- `LD A,[BR:ll]` (R144). -/
def execLdA_atBRll (ll : Byte) (s : State) : Result := .next (s.load8 (.reg .a) (.mem (.atBRll ll)))

/-- `LD B,[BR:ll]` (R144). -/
def execLdB_atBRll (ll : Byte) (s : State) : Result := .next (s.load8 (.reg .b) (.mem (.atBRll ll)))

/-- `LD L,[BR:ll]` (R144). -/
def execLdL_atBRll (ll : Byte) (s : State) : Result := .next (s.load8 (.reg .l) (.mem (.atBRll ll)))

/-- `LD H,[BR:ll]` (R144). -/
def execLdH_atBRll (ll : Byte) (s : State) : Result := .next (s.load8 (.reg .h) (.mem (.atBRll ll)))

/-- `LD A,[hhll]` (R145). -/
def execLdA_athhll (hhll : Word) (s : State) : Result := .next (s.load8 (.reg .a) (.mem (.athhll hhll)))

/-- `LD B,[hhll]` (R145). -/
def execLdB_athhll (hhll : Word) (s : State) : Result := .next (s.load8 (.reg .b) (.mem (.athhll hhll)))

/-- `LD L,[hhll]` (R145). -/
def execLdL_athhll (hhll : Word) (s : State) : Result := .next (s.load8 (.reg .l) (.mem (.athhll hhll)))

/-- `LD H,[hhll]` (R145). -/
def execLdH_athhll (hhll : Word) (s : State) : Result := .next (s.load8 (.reg .h) (.mem (.athhll hhll)))

/-- `LD A,[HL]` (R146). -/
def execLdA_atHL (s : State) : Result := .next (s.load8 (.reg .a) (.mem .atHL))

/-- `LD B,[HL]` (R146). -/
def execLdB_atHL (s : State) : Result := .next (s.load8 (.reg .b) (.mem .atHL))

/-- `LD L,[HL]` (R146). -/
def execLdL_atHL (s : State) : Result := .next (s.load8 (.reg .l) (.mem .atHL))

/-- `LD H,[HL]` (R146). -/
def execLdH_atHL (s : State) : Result := .next (s.load8 (.reg .h) (.mem .atHL))

/-- `LD A,[IX]` (R147). -/
def execLdA_atIX (s : State) : Result := .next (s.load8 (.reg .a) (.mem .atIX))

/-- `LD B,[IX]` (R147). -/
def execLdB_atIX (s : State) : Result := .next (s.load8 (.reg .b) (.mem .atIX))

/-- `LD L,[IX]` (R147). -/
def execLdL_atIX (s : State) : Result := .next (s.load8 (.reg .l) (.mem .atIX))

/-- `LD H,[IX]` (R147). -/
def execLdH_atIX (s : State) : Result := .next (s.load8 (.reg .h) (.mem .atIX))

/-- `LD A,[IY]` (R148). -/
def execLdA_atIY (s : State) : Result := .next (s.load8 (.reg .a) (.mem .atIY))

/-- `LD B,[IY]` (R148). -/
def execLdB_atIY (s : State) : Result := .next (s.load8 (.reg .b) (.mem .atIY))

/-- `LD L,[IY]` (R148). -/
def execLdL_atIY (s : State) : Result := .next (s.load8 (.reg .l) (.mem .atIY))

/-- `LD H,[IY]` (R148). -/
def execLdH_atIY (s : State) : Result := .next (s.load8 (.reg .h) (.mem .atIY))

/-- `LD A,[IX+dd]` (R149). -/
def execLdA_atIXdd (dd : Byte) (s : State) : Result := .next (s.load8 (.reg .a) (.mem (.atIXdd dd)))

/-- `LD B,[IX+dd]` (R149). -/
def execLdB_atIXdd (dd : Byte) (s : State) : Result := .next (s.load8 (.reg .b) (.mem (.atIXdd dd)))

/-- `LD L,[IX+dd]` (R149). -/
def execLdL_atIXdd (dd : Byte) (s : State) : Result := .next (s.load8 (.reg .l) (.mem (.atIXdd dd)))

/-- `LD H,[IX+dd]` (R149). -/
def execLdH_atIXdd (dd : Byte) (s : State) : Result := .next (s.load8 (.reg .h) (.mem (.atIXdd dd)))

/-- `LD A,[IY+dd]` (R150). -/
def execLdA_atIYdd (dd : Byte) (s : State) : Result := .next (s.load8 (.reg .a) (.mem (.atIYdd dd)))

/-- `LD B,[IY+dd]` (R150). -/
def execLdB_atIYdd (dd : Byte) (s : State) : Result := .next (s.load8 (.reg .b) (.mem (.atIYdd dd)))

/-- `LD L,[IY+dd]` (R150). -/
def execLdL_atIYdd (dd : Byte) (s : State) : Result := .next (s.load8 (.reg .l) (.mem (.atIYdd dd)))

/-- `LD H,[IY+dd]` (R150). -/
def execLdH_atIYdd (dd : Byte) (s : State) : Result := .next (s.load8 (.reg .h) (.mem (.atIYdd dd)))

/-- `LD A,[IX+L]` (R151). -/
def execLdA_atIXL (s : State) : Result := .next (s.load8 (.reg .a) (.mem .atIXL))

/-- `LD B,[IX+L]` (R151). -/
def execLdB_atIXL (s : State) : Result := .next (s.load8 (.reg .b) (.mem .atIXL))

/-- `LD L,[IX+L]` (R151). -/
def execLdL_atIXL (s : State) : Result := .next (s.load8 (.reg .l) (.mem .atIXL))

/-- `LD H,[IX+L]` (R151). -/
def execLdH_atIXL (s : State) : Result := .next (s.load8 (.reg .h) (.mem .atIXL))

/-- `LD A,[IY+L]` (R152). -/
def execLdA_atIYL (s : State) : Result := .next (s.load8 (.reg .a) (.mem .atIYL))

/-- `LD B,[IY+L]` (R152). -/
def execLdB_atIYL (s : State) : Result := .next (s.load8 (.reg .b) (.mem .atIYL))

/-- `LD L,[IY+L]` (R152). -/
def execLdL_atIYL (s : State) : Result := .next (s.load8 (.reg .l) (.mem .atIYL))

/-- `LD H,[IY+L]` (R152). -/
def execLdH_atIYL (s : State) : Result := .next (s.load8 (.reg .h) (.mem .atIYL))

/-- `LD [BR:ll],A` (R153). -/
def execLd_atBRll_A (ll : Byte) (s : State) : Result := .next (s.load8 (.mem (.atBRll ll)) (.reg .a))

/-- `LD [BR:ll],B` (R153). -/
def execLd_atBRll_B (ll : Byte) (s : State) : Result := .next (s.load8 (.mem (.atBRll ll)) (.reg .b))

/-- `LD [BR:ll],L` (R153). -/
def execLd_atBRll_L (ll : Byte) (s : State) : Result := .next (s.load8 (.mem (.atBRll ll)) (.reg .l))

/-- `LD [BR:ll],H` (R153). -/
def execLd_atBRll_H (ll : Byte) (s : State) : Result := .next (s.load8 (.mem (.atBRll ll)) (.reg .h))

/-- `LD [hhll],A` (R154). -/
def execLd_athhll_A (hhll : Word) (s : State) : Result := .next (s.load8 (.mem (.athhll hhll)) (.reg .a))

/-- `LD [hhll],B` (R154). -/
def execLd_athhll_B (hhll : Word) (s : State) : Result := .next (s.load8 (.mem (.athhll hhll)) (.reg .b))

/-- `LD [hhll],L` (R154). -/
def execLd_athhll_L (hhll : Word) (s : State) : Result := .next (s.load8 (.mem (.athhll hhll)) (.reg .l))

/-- `LD [hhll],H` (R154). -/
def execLd_athhll_H (hhll : Word) (s : State) : Result := .next (s.load8 (.mem (.athhll hhll)) (.reg .h))

/-- `LD [HL],A` (R155). -/
def execLd_atHL_A (s : State) : Result := .next (s.load8 (.mem .atHL) (.reg .a))

/-- `LD [HL],B` (R155). -/
def execLd_atHL_B (s : State) : Result := .next (s.load8 (.mem .atHL) (.reg .b))

/-- `LD [HL],L` (R155). -/
def execLd_atHL_L (s : State) : Result := .next (s.load8 (.mem .atHL) (.reg .l))

/-- `LD [HL],H` (R155). -/
def execLd_atHL_H (s : State) : Result := .next (s.load8 (.mem .atHL) (.reg .h))

/-- `LD [IX],A` (R156). -/
def execLd_atIX_A (s : State) : Result := .next (s.load8 (.mem .atIX) (.reg .a))

/-- `LD [IX],B` (R156). -/
def execLd_atIX_B (s : State) : Result := .next (s.load8 (.mem .atIX) (.reg .b))

/-- `LD [IX],L` (R156). -/
def execLd_atIX_L (s : State) : Result := .next (s.load8 (.mem .atIX) (.reg .l))

/-- `LD [IX],H` (R156). -/
def execLd_atIX_H (s : State) : Result := .next (s.load8 (.mem .atIX) (.reg .h))

/-- `LD [IY],A` (R156). -/
def execLd_atIY_A (s : State) : Result := .next (s.load8 (.mem .atIY) (.reg .a))

/-- `LD [IY],B` (R156). -/
def execLd_atIY_B (s : State) : Result := .next (s.load8 (.mem .atIY) (.reg .b))

/-- `LD [IY],L` (R156). -/
def execLd_atIY_L (s : State) : Result := .next (s.load8 (.mem .atIY) (.reg .l))

/-- `LD [IY],H` (R156). -/
def execLd_atIY_H (s : State) : Result := .next (s.load8 (.mem .atIY) (.reg .h))

/-- `LD [IX+dd],A` (R157). -/
def execLd_atIXdd_A (dd : Byte) (s : State) : Result := .next (s.load8 (.mem (.atIXdd dd)) (.reg .a))

/-- `LD [IX+dd],B` (R157). -/
def execLd_atIXdd_B (dd : Byte) (s : State) : Result := .next (s.load8 (.mem (.atIXdd dd)) (.reg .b))

/-- `LD [IX+dd],L` (R157). -/
def execLd_atIXdd_L (dd : Byte) (s : State) : Result := .next (s.load8 (.mem (.atIXdd dd)) (.reg .l))

/-- `LD [IX+dd],H` (R157). -/
def execLd_atIXdd_H (dd : Byte) (s : State) : Result := .next (s.load8 (.mem (.atIXdd dd)) (.reg .h))

/-- `LD [IY+dd],A` (R158). -/
def execLd_atIYdd_A (dd : Byte) (s : State) : Result := .next (s.load8 (.mem (.atIYdd dd)) (.reg .a))

/-- `LD [IY+dd],B` (R158). -/
def execLd_atIYdd_B (dd : Byte) (s : State) : Result := .next (s.load8 (.mem (.atIYdd dd)) (.reg .b))

/-- `LD [IY+dd],L` (R158). -/
def execLd_atIYdd_L (dd : Byte) (s : State) : Result := .next (s.load8 (.mem (.atIYdd dd)) (.reg .l))

/-- `LD [IY+dd],H` (R158). -/
def execLd_atIYdd_H (dd : Byte) (s : State) : Result := .next (s.load8 (.mem (.atIYdd dd)) (.reg .h))

/-- `LD [IX+L],A` (R159). -/
def execLd_atIXL_A (s : State) : Result := .next (s.load8 (.mem .atIXL) (.reg .a))

/-- `LD [IX+L],B` (R159). -/
def execLd_atIXL_B (s : State) : Result := .next (s.load8 (.mem .atIXL) (.reg .b))

/-- `LD [IX+L],L` (R159). -/
def execLd_atIXL_L (s : State) : Result := .next (s.load8 (.mem .atIXL) (.reg .l))

/-- `LD [IX+L],H` (R159). -/
def execLd_atIXL_H (s : State) : Result := .next (s.load8 (.mem .atIXL) (.reg .h))

/-- `LD [IY+L],A` (R160). -/
def execLd_atIYL_A (s : State) : Result := .next (s.load8 (.mem .atIYL) (.reg .a))

/-- `LD [IY+L],B` (R160). -/
def execLd_atIYL_B (s : State) : Result := .next (s.load8 (.mem .atIYL) (.reg .b))

/-- `LD [IY+L],L` (R160). -/
def execLd_atIYL_L (s : State) : Result := .next (s.load8 (.mem .atIYL) (.reg .l))

/-- `LD [IY+L],H` (R160). -/
def execLd_atIYL_H (s : State) : Result := .next (s.load8 (.mem .atIYL) (.reg .h))

/-- `LD [BR:ll],#nn` (R161). -/
def execLd_atBRll_imm (ll : Byte) (nn : Byte) (s : State) : Result :=
  .next (s.load8 (.mem (.atBRll ll)) (.imm nn))

/-- `LD [HL],#nn` (R162). -/
def execLd_atHL_imm (nn : Byte) (s : State) : Result := .next (s.load8 (.mem .atHL) (.imm nn))

/-- `LD [IX],#nn` (R163). -/
def execLd_atIX_imm (nn : Byte) (s : State) : Result := .next (s.load8 (.mem .atIX) (.imm nn))

/-- `LD [IY],#nn` (R163). -/
def execLd_atIY_imm (nn : Byte) (s : State) : Result := .next (s.load8 (.mem .atIY) (.imm nn))

/-- `LD [BR:ll],[HL]` (R164). -/
def execLd_atBRll_atHL (ll : Byte) (s : State) : Result := .next (s.load8 (.mem (.atBRll ll)) (.mem .atHL))

/-- `LD [BR:ll],[IX]` (R165). -/
def execLd_atBRll_atIX (ll : Byte) (s : State) : Result := .next (s.load8 (.mem (.atBRll ll)) (.mem .atIX))

/-- `LD [BR:ll],[IY]` (R166). -/
def execLd_atBRll_atIY (ll : Byte) (s : State) : Result := .next (s.load8 (.mem (.atBRll ll)) (.mem .atIY))

/-- `LD [HL],[BR:ll]` (R167). -/
def execLd_atHL_atBRll (ll : Byte) (s : State) : Result := .next (s.load8 (.mem .atHL) (.mem (.atBRll ll)))

/-- `LD [HL],[HL]` (R168). -/
def execLd_atHL_atHL (s : State) : Result := .next (s.load8 (.mem .atHL) (.mem .atHL))

/-- `LD [HL],[IX]` (R169). -/
def execLd_atHL_atIX (s : State) : Result := .next (s.load8 (.mem .atHL) (.mem .atIX))

/-- `LD [HL],[IY]` (R170). -/
def execLd_atHL_atIY (s : State) : Result := .next (s.load8 (.mem .atHL) (.mem .atIY))

/-- `LD [HL],[IX+dd]` (R171). -/
def execLd_atHL_atIXdd (dd : Byte) (s : State) : Result := .next (s.load8 (.mem .atHL) (.mem (.atIXdd dd)))

/-- `LD [HL],[IY+dd]` (R172). -/
def execLd_atHL_atIYdd (dd : Byte) (s : State) : Result := .next (s.load8 (.mem .atHL) (.mem (.atIYdd dd)))

/-- `LD [HL],[IX+L]` (R173). -/
def execLd_atHL_atIXL (s : State) : Result := .next (s.load8 (.mem .atHL) (.mem .atIXL))

/-- `LD [HL],[IY+L]` (R174). -/
def execLd_atHL_atIYL (s : State) : Result := .next (s.load8 (.mem .atHL) (.mem .atIYL))

/-- `LD [IX],[BR:ll]` (R175). -/
def execLd_atIX_atBRll (ll : Byte) (s : State) : Result := .next (s.load8 (.mem .atIX) (.mem (.atBRll ll)))

/-- `LD [IX],[HL]` (R176). -/
def execLd_atIX_atHL (s : State) : Result := .next (s.load8 (.mem .atIX) (.mem .atHL))

/-- `LD [IX],[IX]` (R177). -/
def execLd_atIX_atIX (s : State) : Result := .next (s.load8 (.mem .atIX) (.mem .atIX))

/-- `LD [IX],[IY]` (R178). -/
def execLd_atIX_atIY (s : State) : Result := .next (s.load8 (.mem .atIX) (.mem .atIY))

/-- `LD [IX],[IX+dd]` (R179). -/
def execLd_atIX_atIXdd (dd : Byte) (s : State) : Result := .next (s.load8 (.mem .atIX) (.mem (.atIXdd dd)))

/-- `LD [IX],[IY+dd]` (R180). -/
def execLd_atIX_atIYdd (dd : Byte) (s : State) : Result := .next (s.load8 (.mem .atIX) (.mem (.atIYdd dd)))

/-- `LD [IX],[IX+L]` (R181). -/
def execLd_atIX_atIXL (s : State) : Result := .next (s.load8 (.mem .atIX) (.mem .atIXL))

/-- `LD [IX],[IY+L]` (R182). -/
def execLd_atIX_atIYL (s : State) : Result := .next (s.load8 (.mem .atIX) (.mem .atIYL))

/-- `LD [IY],[BR:ll]` (R175). -/
def execLd_atIY_atBRll (ll : Byte) (s : State) : Result := .next (s.load8 (.mem .atIY) (.mem (.atBRll ll)))

/-- `LD [IY],[HL]` (R176). -/
def execLd_atIY_atHL (s : State) : Result := .next (s.load8 (.mem .atIY) (.mem .atHL))

/-- `LD [IY],[IX]` (R177). -/
def execLd_atIY_atIX (s : State) : Result := .next (s.load8 (.mem .atIY) (.mem .atIX))

/-- `LD [IY],[IY]` (R178). -/
def execLd_atIY_atIY (s : State) : Result := .next (s.load8 (.mem .atIY) (.mem .atIY))

/-- `LD [IY],[IX+dd]` (R179). -/
def execLd_atIY_atIXdd (dd : Byte) (s : State) : Result := .next (s.load8 (.mem .atIY) (.mem (.atIXdd dd)))

/-- `LD [IY],[IY+dd]` (R180). -/
def execLd_atIY_atIYdd (dd : Byte) (s : State) : Result := .next (s.load8 (.mem .atIY) (.mem (.atIYdd dd)))

/-- `LD [IY],[IX+L]` (R181). -/
def execLd_atIY_atIXL (s : State) : Result := .next (s.load8 (.mem .atIY) (.mem .atIXL))

/-- `LD [IY],[IY+L]` (R182). -/
def execLd_atIY_atIYL (s : State) : Result := .next (s.load8 (.mem .atIY) (.mem .atIYL))

/-- `EX A,B` (R183). -/
def execExA_B (s : State) : Result := .next (s.exchange8 (.reg .a) (.reg .b))

/-- `EX A,[HL]` (R184). -/
def execExA_atHL (s : State) : Result := .next (s.exchange8 (.reg .a) (.mem .atHL))

/-- `SWAP A` (R185). -/
def execSwapA (s : State) : Result := .next (s.swapNibbles (.reg .a))

/-- `SWAP [HL]` (R186). -/
def execSwap_atHL (s : State) : Result := .next (s.swapNibbles (.mem .atHL))

end Sys2Proof.Machine
end

