-- ==== Sys2Proof/Machine/Dispatch.lean ====
section
/-! DEFINITION. The meaning of every instruction: one arm per constructor of Instr. -/

namespace Sys2Proof.Machine

def exec (i : Instr) (s : State) : Host.Outcome State Fault Refusal :=
  match i with
  | .ldNB_imm bb => Sys2Proof.Machine.execLdNB_imm bb s
  | .ldEP_imm pp => Sys2Proof.Machine.execLdEP_imm pp s
  | .ldXP_imm pp => Sys2Proof.Machine.execLdXP_imm pp s
  | .ldYP_imm pp => Sys2Proof.Machine.execLdYP_imm pp s
  | .ldA_imm nn => Sys2Proof.Machine.execLdA_imm nn s
  | .ldB_imm nn => Sys2Proof.Machine.execLdB_imm nn s
  | .ldL_imm nn => Sys2Proof.Machine.execLdL_imm nn s
  | .ldH_imm nn => Sys2Proof.Machine.execLdH_imm nn s
  | .ldBR_imm hh => Sys2Proof.Machine.execLdBR_imm hh s
  | .ldSC_imm nn => Sys2Proof.Machine.execLdSC_imm nn s
  | .ldA_atBRll ll => Sys2Proof.Machine.execLdA_atBRll ll s
  | .ldB_atBRll ll => Sys2Proof.Machine.execLdB_atBRll ll s
  | .ldL_atBRll ll => Sys2Proof.Machine.execLdL_atBRll ll s
  | .ldH_atBRll ll => Sys2Proof.Machine.execLdH_atBRll ll s
  | .ldA_athhll hhll => Sys2Proof.Machine.execLdA_athhll hhll s
  | .ldB_athhll hhll => Sys2Proof.Machine.execLdB_athhll hhll s
  | .ldL_athhll hhll => Sys2Proof.Machine.execLdL_athhll hhll s
  | .ldH_athhll hhll => Sys2Proof.Machine.execLdH_athhll hhll s
  | .ldA_atIXdd dd => Sys2Proof.Machine.execLdA_atIXdd dd s
  | .ldB_atIXdd dd => Sys2Proof.Machine.execLdB_atIXdd dd s
  | .ldL_atIXdd dd => Sys2Proof.Machine.execLdL_atIXdd dd s
  | .ldH_atIXdd dd => Sys2Proof.Machine.execLdH_atIXdd dd s
  | .ldA_atIYdd dd => Sys2Proof.Machine.execLdA_atIYdd dd s
  | .ldB_atIYdd dd => Sys2Proof.Machine.execLdB_atIYdd dd s
  | .ldL_atIYdd dd => Sys2Proof.Machine.execLdL_atIYdd dd s
  | .ldH_atIYdd dd => Sys2Proof.Machine.execLdH_atIYdd dd s
  | .ld_atBRll_A ll => Sys2Proof.Machine.execLd_atBRll_A ll s
  | .ld_atBRll_B ll => Sys2Proof.Machine.execLd_atBRll_B ll s
  | .ld_atBRll_L ll => Sys2Proof.Machine.execLd_atBRll_L ll s
  | .ld_atBRll_H ll => Sys2Proof.Machine.execLd_atBRll_H ll s
  | .ld_athhll_A hhll => Sys2Proof.Machine.execLd_athhll_A hhll s
  | .ld_athhll_B hhll => Sys2Proof.Machine.execLd_athhll_B hhll s
  | .ld_athhll_L hhll => Sys2Proof.Machine.execLd_athhll_L hhll s
  | .ld_athhll_H hhll => Sys2Proof.Machine.execLd_athhll_H hhll s
  | .ld_atIXdd_A dd => Sys2Proof.Machine.execLd_atIXdd_A dd s
  | .ld_atIXdd_B dd => Sys2Proof.Machine.execLd_atIXdd_B dd s
  | .ld_atIXdd_L dd => Sys2Proof.Machine.execLd_atIXdd_L dd s
  | .ld_atIXdd_H dd => Sys2Proof.Machine.execLd_atIXdd_H dd s
  | .ld_atIYdd_A dd => Sys2Proof.Machine.execLd_atIYdd_A dd s
  | .ld_atIYdd_B dd => Sys2Proof.Machine.execLd_atIYdd_B dd s
  | .ld_atIYdd_L dd => Sys2Proof.Machine.execLd_atIYdd_L dd s
  | .ld_atIYdd_H dd => Sys2Proof.Machine.execLd_atIYdd_H dd s
  | .ld_atBRll_imm ll nn => Sys2Proof.Machine.execLd_atBRll_imm ll nn s
  | .ld_atHL_imm nn => Sys2Proof.Machine.execLd_atHL_imm nn s
  | .ld_atIX_imm nn => Sys2Proof.Machine.execLd_atIX_imm nn s
  | .ld_atIY_imm nn => Sys2Proof.Machine.execLd_atIY_imm nn s
  | .ld_atBRll_atHL ll => Sys2Proof.Machine.execLd_atBRll_atHL ll s
  | .ld_atBRll_atIX ll => Sys2Proof.Machine.execLd_atBRll_atIX ll s
  | .ld_atBRll_atIY ll => Sys2Proof.Machine.execLd_atBRll_atIY ll s
  | .ld_atHL_atBRll ll => Sys2Proof.Machine.execLd_atHL_atBRll ll s
  | .ld_atHL_atIXdd dd => Sys2Proof.Machine.execLd_atHL_atIXdd dd s
  | .ld_atHL_atIYdd dd => Sys2Proof.Machine.execLd_atHL_atIYdd dd s
  | .ld_atIX_atBRll ll => Sys2Proof.Machine.execLd_atIX_atBRll ll s
  | .ld_atIX_atIXdd dd => Sys2Proof.Machine.execLd_atIX_atIXdd dd s
  | .ld_atIX_atIYdd dd => Sys2Proof.Machine.execLd_atIX_atIYdd dd s
  | .ld_atIY_atBRll ll => Sys2Proof.Machine.execLd_atIY_atBRll ll s
  | .ld_atIY_atIXdd dd => Sys2Proof.Machine.execLd_atIY_atIXdd dd s
  | .ld_atIY_atIYdd dd => Sys2Proof.Machine.execLd_atIY_atIYdd dd s
  | .ldBA_imm mmnn => Sys2Proof.Machine.execLdBA_imm mmnn s
  | .ldHL_imm mmnn => Sys2Proof.Machine.execLdHL_imm mmnn s
  | .ldIX_imm mmnn => Sys2Proof.Machine.execLdIX_imm mmnn s
  | .ldIY_imm mmnn => Sys2Proof.Machine.execLdIY_imm mmnn s
  | .ldSP_imm mmnn => Sys2Proof.Machine.execLdSP_imm mmnn s
  | .ldBA_athhll hhll => Sys2Proof.Machine.execLdBA_athhll hhll s
  | .ldHL_athhll hhll => Sys2Proof.Machine.execLdHL_athhll hhll s
  | .ldIX_athhll hhll => Sys2Proof.Machine.execLdIX_athhll hhll s
  | .ldIY_athhll hhll => Sys2Proof.Machine.execLdIY_athhll hhll s
  | .ldSP_athhll hhll => Sys2Proof.Machine.execLdSP_athhll hhll s
  | .ldBA_atSPdd dd => Sys2Proof.Machine.execLdBA_atSPdd dd s
  | .ldHL_atSPdd dd => Sys2Proof.Machine.execLdHL_atSPdd dd s
  | .ldIX_atSPdd dd => Sys2Proof.Machine.execLdIX_atSPdd dd s
  | .ldIY_atSPdd dd => Sys2Proof.Machine.execLdIY_atSPdd dd s
  | .ld_athhll_BA hhll => Sys2Proof.Machine.execLd_athhll_BA hhll s
  | .ld_athhll_HL hhll => Sys2Proof.Machine.execLd_athhll_HL hhll s
  | .ld_athhll_IX hhll => Sys2Proof.Machine.execLd_athhll_IX hhll s
  | .ld_athhll_IY hhll => Sys2Proof.Machine.execLd_athhll_IY hhll s
  | .ld_athhll_SP hhll => Sys2Proof.Machine.execLd_athhll_SP hhll s
  | .ld_atSPdd_BA dd => Sys2Proof.Machine.execLd_atSPdd_BA dd s
  | .ld_atSPdd_HL dd => Sys2Proof.Machine.execLd_atSPdd_HL dd s
  | .ld_atSPdd_IX dd => Sys2Proof.Machine.execLd_atSPdd_IX dd s
  | .ld_atSPdd_IY dd => Sys2Proof.Machine.execLd_atSPdd_IY dd s
  | .addA_imm nn => Sys2Proof.Machine.execAddA_imm nn s
  | .addA_atBRll ll => Sys2Proof.Machine.execAddA_atBRll ll s
  | .addA_athhll hhll => Sys2Proof.Machine.execAddA_athhll hhll s
  | .addA_atIXdd dd => Sys2Proof.Machine.execAddA_atIXdd dd s
  | .addA_atIYdd dd => Sys2Proof.Machine.execAddA_atIYdd dd s
  | .add_atHL_imm nn => Sys2Proof.Machine.execAdd_atHL_imm nn s
  | .adcA_imm nn => Sys2Proof.Machine.execAdcA_imm nn s
  | .adcA_atBRll ll => Sys2Proof.Machine.execAdcA_atBRll ll s
  | .adcA_athhll hhll => Sys2Proof.Machine.execAdcA_athhll hhll s
  | .adcA_atIXdd dd => Sys2Proof.Machine.execAdcA_atIXdd dd s
  | .adcA_atIYdd dd => Sys2Proof.Machine.execAdcA_atIYdd dd s
  | .adc_atHL_imm nn => Sys2Proof.Machine.execAdc_atHL_imm nn s
  | .subA_imm nn => Sys2Proof.Machine.execSubA_imm nn s
  | .subA_atBRll ll => Sys2Proof.Machine.execSubA_atBRll ll s
  | .subA_athhll hhll => Sys2Proof.Machine.execSubA_athhll hhll s
  | .subA_atIXdd dd => Sys2Proof.Machine.execSubA_atIXdd dd s
  | .subA_atIYdd dd => Sys2Proof.Machine.execSubA_atIYdd dd s
  | .sub_atHL_imm nn => Sys2Proof.Machine.execSub_atHL_imm nn s
  | .sbcA_imm nn => Sys2Proof.Machine.execSbcA_imm nn s
  | .sbcA_atBRll ll => Sys2Proof.Machine.execSbcA_atBRll ll s
  | .sbcA_athhll hhll => Sys2Proof.Machine.execSbcA_athhll hhll s
  | .sbcA_atIXdd dd => Sys2Proof.Machine.execSbcA_atIXdd dd s
  | .sbcA_atIYdd dd => Sys2Proof.Machine.execSbcA_atIYdd dd s
  | .sbc_atHL_imm nn => Sys2Proof.Machine.execSbc_atHL_imm nn s
  | .cpA_imm nn => Sys2Proof.Machine.execCpA_imm nn s
  | .cpA_atBRll ll => Sys2Proof.Machine.execCpA_atBRll ll s
  | .cpA_athhll hhll => Sys2Proof.Machine.execCpA_athhll hhll s
  | .cpA_atIXdd dd => Sys2Proof.Machine.execCpA_atIXdd dd s
  | .cpA_atIYdd dd => Sys2Proof.Machine.execCpA_atIYdd dd s
  | .cpB_imm nn => Sys2Proof.Machine.execCpB_imm nn s
  | .cpL_imm nn => Sys2Proof.Machine.execCpL_imm nn s
  | .cpH_imm nn => Sys2Proof.Machine.execCpH_imm nn s
  | .cpBR_imm hh => Sys2Proof.Machine.execCpBR_imm hh s
  | .cp_atBRll_imm ll nn => Sys2Proof.Machine.execCp_atBRll_imm ll nn s
  | .cp_atHL_imm nn => Sys2Proof.Machine.execCp_atHL_imm nn s
  | .inc_atBRll ll => Sys2Proof.Machine.execInc_atBRll ll s
  | .dec_atBRll ll => Sys2Proof.Machine.execDec_atBRll ll s
  | .neg_atBRll ll => Sys2Proof.Machine.execNeg_atBRll ll s
  | .andA_imm nn => Sys2Proof.Machine.execAndA_imm nn s
  | .andA_atBRll ll => Sys2Proof.Machine.execAndA_atBRll ll s
  | .andA_athhll hhll => Sys2Proof.Machine.execAndA_athhll hhll s
  | .andA_atIXdd dd => Sys2Proof.Machine.execAndA_atIXdd dd s
  | .andA_atIYdd dd => Sys2Proof.Machine.execAndA_atIYdd dd s
  | .andB_imm nn => Sys2Proof.Machine.execAndB_imm nn s
  | .andL_imm nn => Sys2Proof.Machine.execAndL_imm nn s
  | .andH_imm nn => Sys2Proof.Machine.execAndH_imm nn s
  | .andSC_imm nn => Sys2Proof.Machine.execAndSC_imm nn s
  | .and_atBRll_imm ll nn => Sys2Proof.Machine.execAnd_atBRll_imm ll nn s
  | .and_atHL_imm nn => Sys2Proof.Machine.execAnd_atHL_imm nn s
  | .orA_imm nn => Sys2Proof.Machine.execOrA_imm nn s
  | .orA_atBRll ll => Sys2Proof.Machine.execOrA_atBRll ll s
  | .orA_athhll hhll => Sys2Proof.Machine.execOrA_athhll hhll s
  | .orA_atIXdd dd => Sys2Proof.Machine.execOrA_atIXdd dd s
  | .orA_atIYdd dd => Sys2Proof.Machine.execOrA_atIYdd dd s
  | .orB_imm nn => Sys2Proof.Machine.execOrB_imm nn s
  | .orL_imm nn => Sys2Proof.Machine.execOrL_imm nn s
  | .orH_imm nn => Sys2Proof.Machine.execOrH_imm nn s
  | .orSC_imm nn => Sys2Proof.Machine.execOrSC_imm nn s
  | .or_atBRll_imm ll nn => Sys2Proof.Machine.execOr_atBRll_imm ll nn s
  | .or_atHL_imm nn => Sys2Proof.Machine.execOr_atHL_imm nn s
  | .xorA_imm nn => Sys2Proof.Machine.execXorA_imm nn s
  | .xorA_atBRll ll => Sys2Proof.Machine.execXorA_atBRll ll s
  | .xorA_athhll hhll => Sys2Proof.Machine.execXorA_athhll hhll s
  | .xorA_atIXdd dd => Sys2Proof.Machine.execXorA_atIXdd dd s
  | .xorA_atIYdd dd => Sys2Proof.Machine.execXorA_atIYdd dd s
  | .xorB_imm nn => Sys2Proof.Machine.execXorB_imm nn s
  | .xorL_imm nn => Sys2Proof.Machine.execXorL_imm nn s
  | .xorH_imm nn => Sys2Proof.Machine.execXorH_imm nn s
  | .xorSC_imm nn => Sys2Proof.Machine.execXorSC_imm nn s
  | .xor_atBRll_imm ll nn => Sys2Proof.Machine.execXor_atBRll_imm ll nn s
  | .xor_atHL_imm nn => Sys2Proof.Machine.execXor_atHL_imm nn s
  | .bitA_imm nn => Sys2Proof.Machine.execBitA_imm nn s
  | .bitB_imm nn => Sys2Proof.Machine.execBitB_imm nn s
  | .bit_atBRll_imm ll nn => Sys2Proof.Machine.execBit_atBRll_imm ll nn s
  | .bit_atHL_imm nn => Sys2Proof.Machine.execBit_atHL_imm nn s
  | .cpl_atBRll ll => Sys2Proof.Machine.execCpl_atBRll ll s
  | .addBA_imm mmnn => Sys2Proof.Machine.execAddBA_imm mmnn s
  | .addHL_imm mmnn => Sys2Proof.Machine.execAddHL_imm mmnn s
  | .addIX_imm mmnn => Sys2Proof.Machine.execAddIX_imm mmnn s
  | .addIY_imm mmnn => Sys2Proof.Machine.execAddIY_imm mmnn s
  | .subBA_imm mmnn => Sys2Proof.Machine.execSubBA_imm mmnn s
  | .subHL_imm mmnn => Sys2Proof.Machine.execSubHL_imm mmnn s
  | .subIX_imm mmnn => Sys2Proof.Machine.execSubIX_imm mmnn s
  | .subIY_imm mmnn => Sys2Proof.Machine.execSubIY_imm mmnn s
  | .cpBA_imm mmnn => Sys2Proof.Machine.execCpBA_imm mmnn s
  | .cpHL_imm mmnn => Sys2Proof.Machine.execCpHL_imm mmnn s
  | .cpIX_imm mmnn => Sys2Proof.Machine.execCpIX_imm mmnn s
  | .cpIY_imm mmnn => Sys2Proof.Machine.execCpIY_imm mmnn s
  | .adcBA_imm mmnn => Sys2Proof.Machine.execAdcBA_imm mmnn s
  | .adcHL_imm mmnn => Sys2Proof.Machine.execAdcHL_imm mmnn s
  | .sbcBA_imm mmnn => Sys2Proof.Machine.execSbcBA_imm mmnn s
  | .sbcHL_imm mmnn => Sys2Proof.Machine.execSbcHL_imm mmnn s
  | .addSP_imm mmnn => Sys2Proof.Machine.execAddSP_imm mmnn s
  | .subSP_imm mmnn => Sys2Proof.Machine.execSubSP_imm mmnn s
  | .cpSP_imm mmnn => Sys2Proof.Machine.execCpSP_imm mmnn s
  | .rl_atBRll ll => Sys2Proof.Machine.execRl_atBRll ll s
  | .rlc_atBRll ll => Sys2Proof.Machine.execRlc_atBRll ll s
  | .rr_atBRll ll => Sys2Proof.Machine.execRr_atBRll ll s
  | .rrc_atBRll ll => Sys2Proof.Machine.execRrc_atBRll ll s
  | .sla_atBRll ll => Sys2Proof.Machine.execSla_atBRll ll s
  | .sll_atBRll ll => Sys2Proof.Machine.execSll_atBRll ll s
  | .sra_atBRll ll => Sys2Proof.Machine.execSra_atBRll ll s
  | .srl_atBRll ll => Sys2Proof.Machine.execSrl_atBRll ll s
  | .jrs rr => Sys2Proof.Machine.execJrs rr s
  | .jrsC rr => Sys2Proof.Machine.execJrsC rr s
  | .jrsNC rr => Sys2Proof.Machine.execJrsNC rr s
  | .jrsZ rr => Sys2Proof.Machine.execJrsZ rr s
  | .jrsNZ rr => Sys2Proof.Machine.execJrsNZ rr s
  | .jrsLT rr => Sys2Proof.Machine.execJrsLT rr s
  | .jrsLE rr => Sys2Proof.Machine.execJrsLE rr s
  | .jrsGT rr => Sys2Proof.Machine.execJrsGT rr s
  | .jrsGE rr => Sys2Proof.Machine.execJrsGE rr s
  | .jrsV rr => Sys2Proof.Machine.execJrsV rr s
  | .jrsNV rr => Sys2Proof.Machine.execJrsNV rr s
  | .jrsP rr => Sys2Proof.Machine.execJrsP rr s
  | .jrsM rr => Sys2Proof.Machine.execJrsM rr s
  | .jrsF0 rr => Sys2Proof.Machine.execJrsF0 rr s
  | .jrsF1 rr => Sys2Proof.Machine.execJrsF1 rr s
  | .jrsF2 rr => Sys2Proof.Machine.execJrsF2 rr s
  | .jrsF3 rr => Sys2Proof.Machine.execJrsF3 rr s
  | .jrsNF0 rr => Sys2Proof.Machine.execJrsNF0 rr s
  | .jrsNF1 rr => Sys2Proof.Machine.execJrsNF1 rr s
  | .jrsNF2 rr => Sys2Proof.Machine.execJrsNF2 rr s
  | .jrsNF3 rr => Sys2Proof.Machine.execJrsNF3 rr s
  | .jrl qqrr => Sys2Proof.Machine.execJrl qqrr s
  | .jrlC qqrr => Sys2Proof.Machine.execJrlC qqrr s
  | .jrlNC qqrr => Sys2Proof.Machine.execJrlNC qqrr s
  | .jrlZ qqrr => Sys2Proof.Machine.execJrlZ qqrr s
  | .jrlNZ qqrr => Sys2Proof.Machine.execJrlNZ qqrr s
  | .djrNZ rr => Sys2Proof.Machine.execDjrNZ rr s
  | .jp_atkk kk => Sys2Proof.Machine.execJp_atkk kk s
  | .cars rr => Sys2Proof.Machine.execCars rr s
  | .carsC rr => Sys2Proof.Machine.execCarsC rr s
  | .carsNC rr => Sys2Proof.Machine.execCarsNC rr s
  | .carsZ rr => Sys2Proof.Machine.execCarsZ rr s
  | .carsNZ rr => Sys2Proof.Machine.execCarsNZ rr s
  | .carsLT rr => Sys2Proof.Machine.execCarsLT rr s
  | .carsLE rr => Sys2Proof.Machine.execCarsLE rr s
  | .carsGT rr => Sys2Proof.Machine.execCarsGT rr s
  | .carsGE rr => Sys2Proof.Machine.execCarsGE rr s
  | .carsV rr => Sys2Proof.Machine.execCarsV rr s
  | .carsNV rr => Sys2Proof.Machine.execCarsNV rr s
  | .carsP rr => Sys2Proof.Machine.execCarsP rr s
  | .carsM rr => Sys2Proof.Machine.execCarsM rr s
  | .carsF0 rr => Sys2Proof.Machine.execCarsF0 rr s
  | .carsF1 rr => Sys2Proof.Machine.execCarsF1 rr s
  | .carsF2 rr => Sys2Proof.Machine.execCarsF2 rr s
  | .carsF3 rr => Sys2Proof.Machine.execCarsF3 rr s
  | .carsNF0 rr => Sys2Proof.Machine.execCarsNF0 rr s
  | .carsNF1 rr => Sys2Proof.Machine.execCarsNF1 rr s
  | .carsNF2 rr => Sys2Proof.Machine.execCarsNF2 rr s
  | .carsNF3 rr => Sys2Proof.Machine.execCarsNF3 rr s
  | .carl qqrr => Sys2Proof.Machine.execCarl qqrr s
  | .carlC qqrr => Sys2Proof.Machine.execCarlC qqrr s
  | .carlNC qqrr => Sys2Proof.Machine.execCarlNC qqrr s
  | .carlZ qqrr => Sys2Proof.Machine.execCarlZ qqrr s
  | .carlNZ qqrr => Sys2Proof.Machine.execCarlNZ qqrr s
  | .call_athhll hhll => Sys2Proof.Machine.execCall_athhll hhll s
  | .int_atkk kk => Sys2Proof.Machine.execInt_atkk kk s
  | .ldA_A => Sys2Proof.Machine.execLdA_A s
  | .ldA_B => Sys2Proof.Machine.execLdA_B s
  | .ldA_L => Sys2Proof.Machine.execLdA_L s
  | .ldA_H => Sys2Proof.Machine.execLdA_H s
  | .ldB_A => Sys2Proof.Machine.execLdB_A s
  | .ldB_B => Sys2Proof.Machine.execLdB_B s
  | .ldB_L => Sys2Proof.Machine.execLdB_L s
  | .ldB_H => Sys2Proof.Machine.execLdB_H s
  | .ldL_A => Sys2Proof.Machine.execLdL_A s
  | .ldL_B => Sys2Proof.Machine.execLdL_B s
  | .ldL_L => Sys2Proof.Machine.execLdL_L s
  | .ldL_H => Sys2Proof.Machine.execLdL_H s
  | .ldH_A => Sys2Proof.Machine.execLdH_A s
  | .ldH_B => Sys2Proof.Machine.execLdH_B s
  | .ldH_L => Sys2Proof.Machine.execLdH_L s
  | .ldH_H => Sys2Proof.Machine.execLdH_H s
  | .ldA_BR => Sys2Proof.Machine.execLdA_BR s
  | .ldA_SC => Sys2Proof.Machine.execLdA_SC s
  | .ldBR_A => Sys2Proof.Machine.execLdBR_A s
  | .ldSC_A => Sys2Proof.Machine.execLdSC_A s
  | .ldA_NB => Sys2Proof.Machine.execLdA_NB s
  | .ldA_EP => Sys2Proof.Machine.execLdA_EP s
  | .ldA_XP => Sys2Proof.Machine.execLdA_XP s
  | .ldA_YP => Sys2Proof.Machine.execLdA_YP s
  | .ldNB_A => Sys2Proof.Machine.execLdNB_A s
  | .ldEP_A => Sys2Proof.Machine.execLdEP_A s
  | .ldXP_A => Sys2Proof.Machine.execLdXP_A s
  | .ldYP_A => Sys2Proof.Machine.execLdYP_A s
  | .ldA_atHL => Sys2Proof.Machine.execLdA_atHL s
  | .ldB_atHL => Sys2Proof.Machine.execLdB_atHL s
  | .ldL_atHL => Sys2Proof.Machine.execLdL_atHL s
  | .ldH_atHL => Sys2Proof.Machine.execLdH_atHL s
  | .ldA_atIX => Sys2Proof.Machine.execLdA_atIX s
  | .ldB_atIX => Sys2Proof.Machine.execLdB_atIX s
  | .ldL_atIX => Sys2Proof.Machine.execLdL_atIX s
  | .ldH_atIX => Sys2Proof.Machine.execLdH_atIX s
  | .ldA_atIY => Sys2Proof.Machine.execLdA_atIY s
  | .ldB_atIY => Sys2Proof.Machine.execLdB_atIY s
  | .ldL_atIY => Sys2Proof.Machine.execLdL_atIY s
  | .ldH_atIY => Sys2Proof.Machine.execLdH_atIY s
  | .ldA_atIXL => Sys2Proof.Machine.execLdA_atIXL s
  | .ldB_atIXL => Sys2Proof.Machine.execLdB_atIXL s
  | .ldL_atIXL => Sys2Proof.Machine.execLdL_atIXL s
  | .ldH_atIXL => Sys2Proof.Machine.execLdH_atIXL s
  | .ldA_atIYL => Sys2Proof.Machine.execLdA_atIYL s
  | .ldB_atIYL => Sys2Proof.Machine.execLdB_atIYL s
  | .ldL_atIYL => Sys2Proof.Machine.execLdL_atIYL s
  | .ldH_atIYL => Sys2Proof.Machine.execLdH_atIYL s
  | .ld_atHL_A => Sys2Proof.Machine.execLd_atHL_A s
  | .ld_atHL_B => Sys2Proof.Machine.execLd_atHL_B s
  | .ld_atHL_L => Sys2Proof.Machine.execLd_atHL_L s
  | .ld_atHL_H => Sys2Proof.Machine.execLd_atHL_H s
  | .ld_atIX_A => Sys2Proof.Machine.execLd_atIX_A s
  | .ld_atIX_B => Sys2Proof.Machine.execLd_atIX_B s
  | .ld_atIX_L => Sys2Proof.Machine.execLd_atIX_L s
  | .ld_atIX_H => Sys2Proof.Machine.execLd_atIX_H s
  | .ld_atIY_A => Sys2Proof.Machine.execLd_atIY_A s
  | .ld_atIY_B => Sys2Proof.Machine.execLd_atIY_B s
  | .ld_atIY_L => Sys2Proof.Machine.execLd_atIY_L s
  | .ld_atIY_H => Sys2Proof.Machine.execLd_atIY_H s
  | .ld_atIXL_A => Sys2Proof.Machine.execLd_atIXL_A s
  | .ld_atIXL_B => Sys2Proof.Machine.execLd_atIXL_B s
  | .ld_atIXL_L => Sys2Proof.Machine.execLd_atIXL_L s
  | .ld_atIXL_H => Sys2Proof.Machine.execLd_atIXL_H s
  | .ld_atIYL_A => Sys2Proof.Machine.execLd_atIYL_A s
  | .ld_atIYL_B => Sys2Proof.Machine.execLd_atIYL_B s
  | .ld_atIYL_L => Sys2Proof.Machine.execLd_atIYL_L s
  | .ld_atIYL_H => Sys2Proof.Machine.execLd_atIYL_H s
  | .ld_atHL_atHL => Sys2Proof.Machine.execLd_atHL_atHL s
  | .ld_atHL_atIX => Sys2Proof.Machine.execLd_atHL_atIX s
  | .ld_atHL_atIY => Sys2Proof.Machine.execLd_atHL_atIY s
  | .ld_atHL_atIXL => Sys2Proof.Machine.execLd_atHL_atIXL s
  | .ld_atHL_atIYL => Sys2Proof.Machine.execLd_atHL_atIYL s
  | .ld_atIX_atHL => Sys2Proof.Machine.execLd_atIX_atHL s
  | .ld_atIX_atIX => Sys2Proof.Machine.execLd_atIX_atIX s
  | .ld_atIX_atIY => Sys2Proof.Machine.execLd_atIX_atIY s
  | .ld_atIX_atIXL => Sys2Proof.Machine.execLd_atIX_atIXL s
  | .ld_atIX_atIYL => Sys2Proof.Machine.execLd_atIX_atIYL s
  | .ld_atIY_atHL => Sys2Proof.Machine.execLd_atIY_atHL s
  | .ld_atIY_atIX => Sys2Proof.Machine.execLd_atIY_atIX s
  | .ld_atIY_atIY => Sys2Proof.Machine.execLd_atIY_atIY s
  | .ld_atIY_atIXL => Sys2Proof.Machine.execLd_atIY_atIXL s
  | .ld_atIY_atIYL => Sys2Proof.Machine.execLd_atIY_atIYL s
  | .exA_B => Sys2Proof.Machine.execExA_B s
  | .exA_atHL => Sys2Proof.Machine.execExA_atHL s
  | .swapA => Sys2Proof.Machine.execSwapA s
  | .swap_atHL => Sys2Proof.Machine.execSwap_atHL s
  | .ldBA_BA => Sys2Proof.Machine.execLdBA_BA s
  | .ldBA_HL => Sys2Proof.Machine.execLdBA_HL s
  | .ldBA_IX => Sys2Proof.Machine.execLdBA_IX s
  | .ldBA_IY => Sys2Proof.Machine.execLdBA_IY s
  | .ldHL_BA => Sys2Proof.Machine.execLdHL_BA s
  | .ldHL_HL => Sys2Proof.Machine.execLdHL_HL s
  | .ldHL_IX => Sys2Proof.Machine.execLdHL_IX s
  | .ldHL_IY => Sys2Proof.Machine.execLdHL_IY s
  | .ldIX_BA => Sys2Proof.Machine.execLdIX_BA s
  | .ldIX_HL => Sys2Proof.Machine.execLdIX_HL s
  | .ldIX_IX => Sys2Proof.Machine.execLdIX_IX s
  | .ldIX_IY => Sys2Proof.Machine.execLdIX_IY s
  | .ldIY_BA => Sys2Proof.Machine.execLdIY_BA s
  | .ldIY_HL => Sys2Proof.Machine.execLdIY_HL s
  | .ldIY_IX => Sys2Proof.Machine.execLdIY_IX s
  | .ldIY_IY => Sys2Proof.Machine.execLdIY_IY s
  | .ldBA_PC => Sys2Proof.Machine.execLdBA_PC s
  | .ldBA_SP => Sys2Proof.Machine.execLdBA_SP s
  | .ldHL_PC => Sys2Proof.Machine.execLdHL_PC s
  | .ldHL_SP => Sys2Proof.Machine.execLdHL_SP s
  | .ldIX_SP => Sys2Proof.Machine.execLdIX_SP s
  | .ldIY_SP => Sys2Proof.Machine.execLdIY_SP s
  | .ldSP_BA => Sys2Proof.Machine.execLdSP_BA s
  | .ldSP_HL => Sys2Proof.Machine.execLdSP_HL s
  | .ldSP_IX => Sys2Proof.Machine.execLdSP_IX s
  | .ldSP_IY => Sys2Proof.Machine.execLdSP_IY s
  | .ldBA_atHL => Sys2Proof.Machine.execLdBA_atHL s
  | .ldHL_atHL => Sys2Proof.Machine.execLdHL_atHL s
  | .ldIX_atHL => Sys2Proof.Machine.execLdIX_atHL s
  | .ldIY_atHL => Sys2Proof.Machine.execLdIY_atHL s
  | .ldBA_atIX => Sys2Proof.Machine.execLdBA_atIX s
  | .ldHL_atIX => Sys2Proof.Machine.execLdHL_atIX s
  | .ldIX_atIX => Sys2Proof.Machine.execLdIX_atIX s
  | .ldIY_atIX => Sys2Proof.Machine.execLdIY_atIX s
  | .ldBA_atIY => Sys2Proof.Machine.execLdBA_atIY s
  | .ldHL_atIY => Sys2Proof.Machine.execLdHL_atIY s
  | .ldIX_atIY => Sys2Proof.Machine.execLdIX_atIY s
  | .ldIY_atIY => Sys2Proof.Machine.execLdIY_atIY s
  | .ld_atHL_BA => Sys2Proof.Machine.execLd_atHL_BA s
  | .ld_atHL_HL => Sys2Proof.Machine.execLd_atHL_HL s
  | .ld_atHL_IX => Sys2Proof.Machine.execLd_atHL_IX s
  | .ld_atHL_IY => Sys2Proof.Machine.execLd_atHL_IY s
  | .ld_atIX_BA => Sys2Proof.Machine.execLd_atIX_BA s
  | .ld_atIX_HL => Sys2Proof.Machine.execLd_atIX_HL s
  | .ld_atIX_IX => Sys2Proof.Machine.execLd_atIX_IX s
  | .ld_atIX_IY => Sys2Proof.Machine.execLd_atIX_IY s
  | .ld_atIY_BA => Sys2Proof.Machine.execLd_atIY_BA s
  | .ld_atIY_HL => Sys2Proof.Machine.execLd_atIY_HL s
  | .ld_atIY_IX => Sys2Proof.Machine.execLd_atIY_IX s
  | .ld_atIY_IY => Sys2Proof.Machine.execLd_atIY_IY s
  | .exBA_HL => Sys2Proof.Machine.execExBA_HL s
  | .exBA_IX => Sys2Proof.Machine.execExBA_IX s
  | .exBA_IY => Sys2Proof.Machine.execExBA_IY s
  | .exBA_SP => Sys2Proof.Machine.execExBA_SP s
  | .addA_A => Sys2Proof.Machine.execAddA_A s
  | .addA_B => Sys2Proof.Machine.execAddA_B s
  | .addA_atHL => Sys2Proof.Machine.execAddA_atHL s
  | .addA_atIX => Sys2Proof.Machine.execAddA_atIX s
  | .addA_atIY => Sys2Proof.Machine.execAddA_atIY s
  | .addA_atIXL => Sys2Proof.Machine.execAddA_atIXL s
  | .addA_atIYL => Sys2Proof.Machine.execAddA_atIYL s
  | .add_atHL_A => Sys2Proof.Machine.execAdd_atHL_A s
  | .add_atHL_atIX => Sys2Proof.Machine.execAdd_atHL_atIX s
  | .add_atHL_atIY => Sys2Proof.Machine.execAdd_atHL_atIY s
  | .adcA_A => Sys2Proof.Machine.execAdcA_A s
  | .adcA_B => Sys2Proof.Machine.execAdcA_B s
  | .adcA_atHL => Sys2Proof.Machine.execAdcA_atHL s
  | .adcA_atIX => Sys2Proof.Machine.execAdcA_atIX s
  | .adcA_atIY => Sys2Proof.Machine.execAdcA_atIY s
  | .adcA_atIXL => Sys2Proof.Machine.execAdcA_atIXL s
  | .adcA_atIYL => Sys2Proof.Machine.execAdcA_atIYL s
  | .adc_atHL_A => Sys2Proof.Machine.execAdc_atHL_A s
  | .adc_atHL_atIX => Sys2Proof.Machine.execAdc_atHL_atIX s
  | .adc_atHL_atIY => Sys2Proof.Machine.execAdc_atHL_atIY s
  | .subA_A => Sys2Proof.Machine.execSubA_A s
  | .subA_B => Sys2Proof.Machine.execSubA_B s
  | .subA_atHL => Sys2Proof.Machine.execSubA_atHL s
  | .subA_atIX => Sys2Proof.Machine.execSubA_atIX s
  | .subA_atIY => Sys2Proof.Machine.execSubA_atIY s
  | .subA_atIXL => Sys2Proof.Machine.execSubA_atIXL s
  | .subA_atIYL => Sys2Proof.Machine.execSubA_atIYL s
  | .sub_atHL_A => Sys2Proof.Machine.execSub_atHL_A s
  | .sub_atHL_atIX => Sys2Proof.Machine.execSub_atHL_atIX s
  | .sub_atHL_atIY => Sys2Proof.Machine.execSub_atHL_atIY s
  | .sbcA_A => Sys2Proof.Machine.execSbcA_A s
  | .sbcA_B => Sys2Proof.Machine.execSbcA_B s
  | .sbcA_atHL => Sys2Proof.Machine.execSbcA_atHL s
  | .sbcA_atIX => Sys2Proof.Machine.execSbcA_atIX s
  | .sbcA_atIY => Sys2Proof.Machine.execSbcA_atIY s
  | .sbcA_atIXL => Sys2Proof.Machine.execSbcA_atIXL s
  | .sbcA_atIYL => Sys2Proof.Machine.execSbcA_atIYL s
  | .sbc_atHL_A => Sys2Proof.Machine.execSbc_atHL_A s
  | .sbc_atHL_atIX => Sys2Proof.Machine.execSbc_atHL_atIX s
  | .sbc_atHL_atIY => Sys2Proof.Machine.execSbc_atHL_atIY s
  | .cpA_A => Sys2Proof.Machine.execCpA_A s
  | .cpA_B => Sys2Proof.Machine.execCpA_B s
  | .cpA_atHL => Sys2Proof.Machine.execCpA_atHL s
  | .cpA_atIX => Sys2Proof.Machine.execCpA_atIX s
  | .cpA_atIY => Sys2Proof.Machine.execCpA_atIY s
  | .cpA_atIXL => Sys2Proof.Machine.execCpA_atIXL s
  | .cpA_atIYL => Sys2Proof.Machine.execCpA_atIYL s
  | .cp_atHL_A => Sys2Proof.Machine.execCp_atHL_A s
  | .cp_atHL_atIX => Sys2Proof.Machine.execCp_atHL_atIX s
  | .cp_atHL_atIY => Sys2Proof.Machine.execCp_atHL_atIY s
  | .incA => Sys2Proof.Machine.execIncA s
  | .incB => Sys2Proof.Machine.execIncB s
  | .incL => Sys2Proof.Machine.execIncL s
  | .incH => Sys2Proof.Machine.execIncH s
  | .incBR => Sys2Proof.Machine.execIncBR s
  | .inc_atHL => Sys2Proof.Machine.execInc_atHL s
  | .decA => Sys2Proof.Machine.execDecA s
  | .decB => Sys2Proof.Machine.execDecB s
  | .decL => Sys2Proof.Machine.execDecL s
  | .decH => Sys2Proof.Machine.execDecH s
  | .decBR => Sys2Proof.Machine.execDecBR s
  | .dec_atHL => Sys2Proof.Machine.execDec_atHL s
  | .negA => Sys2Proof.Machine.execNegA s
  | .negB => Sys2Proof.Machine.execNegB s
  | .neg_atHL => Sys2Proof.Machine.execNeg_atHL s
  | .mlt => Sys2Proof.Machine.execMlt s
  | .div => Sys2Proof.Machine.execDiv s
  | .andA_A => Sys2Proof.Machine.execAndA_A s
  | .andA_B => Sys2Proof.Machine.execAndA_B s
  | .andA_atHL => Sys2Proof.Machine.execAndA_atHL s
  | .andA_atIX => Sys2Proof.Machine.execAndA_atIX s
  | .andA_atIY => Sys2Proof.Machine.execAndA_atIY s
  | .andA_atIXL => Sys2Proof.Machine.execAndA_atIXL s
  | .andA_atIYL => Sys2Proof.Machine.execAndA_atIYL s
  | .and_atHL_A => Sys2Proof.Machine.execAnd_atHL_A s
  | .and_atHL_atIX => Sys2Proof.Machine.execAnd_atHL_atIX s
  | .and_atHL_atIY => Sys2Proof.Machine.execAnd_atHL_atIY s
  | .orA_A => Sys2Proof.Machine.execOrA_A s
  | .orA_B => Sys2Proof.Machine.execOrA_B s
  | .orA_atHL => Sys2Proof.Machine.execOrA_atHL s
  | .orA_atIX => Sys2Proof.Machine.execOrA_atIX s
  | .orA_atIY => Sys2Proof.Machine.execOrA_atIY s
  | .orA_atIXL => Sys2Proof.Machine.execOrA_atIXL s
  | .orA_atIYL => Sys2Proof.Machine.execOrA_atIYL s
  | .or_atHL_A => Sys2Proof.Machine.execOr_atHL_A s
  | .or_atHL_atIX => Sys2Proof.Machine.execOr_atHL_atIX s
  | .or_atHL_atIY => Sys2Proof.Machine.execOr_atHL_atIY s
  | .xorA_A => Sys2Proof.Machine.execXorA_A s
  | .xorA_B => Sys2Proof.Machine.execXorA_B s
  | .xorA_atHL => Sys2Proof.Machine.execXorA_atHL s
  | .xorA_atIX => Sys2Proof.Machine.execXorA_atIX s
  | .xorA_atIY => Sys2Proof.Machine.execXorA_atIY s
  | .xorA_atIXL => Sys2Proof.Machine.execXorA_atIXL s
  | .xorA_atIYL => Sys2Proof.Machine.execXorA_atIYL s
  | .xor_atHL_A => Sys2Proof.Machine.execXor_atHL_A s
  | .xor_atHL_atIX => Sys2Proof.Machine.execXor_atHL_atIX s
  | .xor_atHL_atIY => Sys2Proof.Machine.execXor_atHL_atIY s
  | .bitA_B => Sys2Proof.Machine.execBitA_B s
  | .cplA => Sys2Proof.Machine.execCplA s
  | .cplB => Sys2Proof.Machine.execCplB s
  | .cpl_atHL => Sys2Proof.Machine.execCpl_atHL s
  | .addBA_BA => Sys2Proof.Machine.execAddBA_BA s
  | .addBA_HL => Sys2Proof.Machine.execAddBA_HL s
  | .addBA_IX => Sys2Proof.Machine.execAddBA_IX s
  | .addBA_IY => Sys2Proof.Machine.execAddBA_IY s
  | .addHL_BA => Sys2Proof.Machine.execAddHL_BA s
  | .addHL_HL => Sys2Proof.Machine.execAddHL_HL s
  | .addHL_IX => Sys2Proof.Machine.execAddHL_IX s
  | .addHL_IY => Sys2Proof.Machine.execAddHL_IY s
  | .adcBA_BA => Sys2Proof.Machine.execAdcBA_BA s
  | .adcBA_HL => Sys2Proof.Machine.execAdcBA_HL s
  | .adcBA_IX => Sys2Proof.Machine.execAdcBA_IX s
  | .adcBA_IY => Sys2Proof.Machine.execAdcBA_IY s
  | .adcHL_BA => Sys2Proof.Machine.execAdcHL_BA s
  | .adcHL_HL => Sys2Proof.Machine.execAdcHL_HL s
  | .adcHL_IX => Sys2Proof.Machine.execAdcHL_IX s
  | .adcHL_IY => Sys2Proof.Machine.execAdcHL_IY s
  | .subBA_BA => Sys2Proof.Machine.execSubBA_BA s
  | .subBA_HL => Sys2Proof.Machine.execSubBA_HL s
  | .subBA_IX => Sys2Proof.Machine.execSubBA_IX s
  | .subBA_IY => Sys2Proof.Machine.execSubBA_IY s
  | .subHL_BA => Sys2Proof.Machine.execSubHL_BA s
  | .subHL_HL => Sys2Proof.Machine.execSubHL_HL s
  | .subHL_IX => Sys2Proof.Machine.execSubHL_IX s
  | .subHL_IY => Sys2Proof.Machine.execSubHL_IY s
  | .sbcBA_BA => Sys2Proof.Machine.execSbcBA_BA s
  | .sbcBA_HL => Sys2Proof.Machine.execSbcBA_HL s
  | .sbcBA_IX => Sys2Proof.Machine.execSbcBA_IX s
  | .sbcBA_IY => Sys2Proof.Machine.execSbcBA_IY s
  | .sbcHL_BA => Sys2Proof.Machine.execSbcHL_BA s
  | .sbcHL_HL => Sys2Proof.Machine.execSbcHL_HL s
  | .sbcHL_IX => Sys2Proof.Machine.execSbcHL_IX s
  | .sbcHL_IY => Sys2Proof.Machine.execSbcHL_IY s
  | .cpBA_BA => Sys2Proof.Machine.execCpBA_BA s
  | .cpBA_HL => Sys2Proof.Machine.execCpBA_HL s
  | .cpBA_IX => Sys2Proof.Machine.execCpBA_IX s
  | .cpBA_IY => Sys2Proof.Machine.execCpBA_IY s
  | .cpHL_BA => Sys2Proof.Machine.execCpHL_BA s
  | .cpHL_HL => Sys2Proof.Machine.execCpHL_HL s
  | .cpHL_IX => Sys2Proof.Machine.execCpHL_IX s
  | .cpHL_IY => Sys2Proof.Machine.execCpHL_IY s
  | .addIX_BA => Sys2Proof.Machine.execAddIX_BA s
  | .addIX_HL => Sys2Proof.Machine.execAddIX_HL s
  | .addIY_BA => Sys2Proof.Machine.execAddIY_BA s
  | .addIY_HL => Sys2Proof.Machine.execAddIY_HL s
  | .addSP_BA => Sys2Proof.Machine.execAddSP_BA s
  | .addSP_HL => Sys2Proof.Machine.execAddSP_HL s
  | .subIX_BA => Sys2Proof.Machine.execSubIX_BA s
  | .subIX_HL => Sys2Proof.Machine.execSubIX_HL s
  | .subIY_BA => Sys2Proof.Machine.execSubIY_BA s
  | .subIY_HL => Sys2Proof.Machine.execSubIY_HL s
  | .subSP_BA => Sys2Proof.Machine.execSubSP_BA s
  | .subSP_HL => Sys2Proof.Machine.execSubSP_HL s
  | .cpSP_BA => Sys2Proof.Machine.execCpSP_BA s
  | .cpSP_HL => Sys2Proof.Machine.execCpSP_HL s
  | .incBA => Sys2Proof.Machine.execIncBA s
  | .incHL => Sys2Proof.Machine.execIncHL s
  | .incIX => Sys2Proof.Machine.execIncIX s
  | .incIY => Sys2Proof.Machine.execIncIY s
  | .incSP => Sys2Proof.Machine.execIncSP s
  | .decBA => Sys2Proof.Machine.execDecBA s
  | .decHL => Sys2Proof.Machine.execDecHL s
  | .decIX => Sys2Proof.Machine.execDecIX s
  | .decIY => Sys2Proof.Machine.execDecIY s
  | .decSP => Sys2Proof.Machine.execDecSP s
  | .pack => Sys2Proof.Machine.execPack s
  | .upck => Sys2Proof.Machine.execUpck s
  | .sep => Sys2Proof.Machine.execSep s
  | .rlA => Sys2Proof.Machine.execRlA s
  | .rlB => Sys2Proof.Machine.execRlB s
  | .rl_atHL => Sys2Proof.Machine.execRl_atHL s
  | .rlcA => Sys2Proof.Machine.execRlcA s
  | .rlcB => Sys2Proof.Machine.execRlcB s
  | .rlc_atHL => Sys2Proof.Machine.execRlc_atHL s
  | .rrA => Sys2Proof.Machine.execRrA s
  | .rrB => Sys2Proof.Machine.execRrB s
  | .rr_atHL => Sys2Proof.Machine.execRr_atHL s
  | .rrcA => Sys2Proof.Machine.execRrcA s
  | .rrcB => Sys2Proof.Machine.execRrcB s
  | .rrc_atHL => Sys2Proof.Machine.execRrc_atHL s
  | .slaA => Sys2Proof.Machine.execSlaA s
  | .slaB => Sys2Proof.Machine.execSlaB s
  | .sla_atHL => Sys2Proof.Machine.execSla_atHL s
  | .sllA => Sys2Proof.Machine.execSllA s
  | .sllB => Sys2Proof.Machine.execSllB s
  | .sll_atHL => Sys2Proof.Machine.execSll_atHL s
  | .sraA => Sys2Proof.Machine.execSraA s
  | .sraB => Sys2Proof.Machine.execSraB s
  | .sra_atHL => Sys2Proof.Machine.execSra_atHL s
  | .srlA => Sys2Proof.Machine.execSrlA s
  | .srlB => Sys2Proof.Machine.execSrlB s
  | .srl_atHL => Sys2Proof.Machine.execSrl_atHL s
  | .pushA => Sys2Proof.Machine.execPushA s
  | .pushB => Sys2Proof.Machine.execPushB s
  | .pushL => Sys2Proof.Machine.execPushL s
  | .pushH => Sys2Proof.Machine.execPushH s
  | .pushBA => Sys2Proof.Machine.execPushBA s
  | .pushHL => Sys2Proof.Machine.execPushHL s
  | .pushIX => Sys2Proof.Machine.execPushIX s
  | .pushIY => Sys2Proof.Machine.execPushIY s
  | .pushBR => Sys2Proof.Machine.execPushBR s
  | .pushEP => Sys2Proof.Machine.execPushEP s
  | .pushIP => Sys2Proof.Machine.execPushIP s
  | .pushSC => Sys2Proof.Machine.execPushSC s
  | .pushALL => Sys2Proof.Machine.execPushALL s
  | .pushALE => Sys2Proof.Machine.execPushALE s
  | .popA => Sys2Proof.Machine.execPopA s
  | .popB => Sys2Proof.Machine.execPopB s
  | .popL => Sys2Proof.Machine.execPopL s
  | .popH => Sys2Proof.Machine.execPopH s
  | .popBA => Sys2Proof.Machine.execPopBA s
  | .popHL => Sys2Proof.Machine.execPopHL s
  | .popIX => Sys2Proof.Machine.execPopIX s
  | .popIY => Sys2Proof.Machine.execPopIY s
  | .popBR => Sys2Proof.Machine.execPopBR s
  | .popEP => Sys2Proof.Machine.execPopEP s
  | .popIP => Sys2Proof.Machine.execPopIP s
  | .popSC => Sys2Proof.Machine.execPopSC s
  | .popALL => Sys2Proof.Machine.execPopALL s
  | .popALE => Sys2Proof.Machine.execPopALE s
  | .jpHL => Sys2Proof.Machine.execJpHL s
  | .ret => Sys2Proof.Machine.execRet s
  | .rete => Sys2Proof.Machine.execRete s
  | .rets => Sys2Proof.Machine.execRets s
  | .nop => Sys2Proof.Machine.execNop s
  | .halt => Sys2Proof.Machine.execHalt s
  | .slp => Sys2Proof.Machine.execSlp s

end Sys2Proof.Machine
end

