-- ==== Sys2Proof/Machine/Fetch.lean ====
section
/-! DEFINITION. Fetching and decoding one instruction (20_memory.md R64, R81; 10_state.md R15; 30_encoding.md R105),
and placing an instruction where the next fetch finds it. -/

namespace Sys2Proof.Machine

/-- The byte in memory at logical program address `pc` (20_memory.md R64): each byte is translated on its own. -/
def State.programByte (s : State) (pc : Word) : Byte := s.readMem (s.progAddr pc)

/-- Whether the next first opcode byte is the one byte that the last store may have come too late for
(70_reset_and_hazards.md R671). -/
def State.prefetchUnsure (s : State) : Bool :=
  match s.lateStore with
  | some (addr, _) => decide (addr = s.progAddr s.pc)
  | none => false

/-- The first opcode byte: what memory holds, or, in the case of R671, the byte from before the store where the free
choice `Config.prefetchOld` says so (93 U10; log 14). -/
def State.firstByte (s : State) : Byte :=
  match s.lateStore with
  | some (_, old) =>
    if s.prefetchUnsure && Config.prefetchOld s.freeIdx then old else s.programByte s.pc
  | none => s.programByte s.pc

/-- Four bytes from PC on, the longest instruction (30_encoding.md R100); decoding uses those it needs. -/
def State.fetchBytes (s : State) : List Byte :=
  [s.firstByte, s.programByte (s.pc + 1#16), s.programByte (s.pc + 2#16), s.programByte (s.pc + 3#16)]

/-- The state in which an instruction of `n` bytes executes: PC is the next instruction's address (10_state.md R15),
`InhibitInt` is false until the instruction sets it (60_exceptions.md R603), and the last store is behind. -/
def State.advance (s : State) (n : Nat) : State :=
  { s with
    pc := s.pc + BitVec.ofNat 16 n
    inhibitInt := false
    freeIdx := if s.prefetchUnsure then s.freeIdx + 1 else s.freeIdx
    lateStore := none }

/-- Fetches one instruction: the instruction and the state in which it executes. -/
def State.fetch (s : State) : Except DecodeError (Instr × State) :=
  match decode s.fetchBytes with
  | .ok (i, n) => .ok (i, s.advance n)
  | .error e => .error e

/-- Writes bytes at consecutive logical program addresses from `pc` on. -/
def State.placeBytes (s : State) (pc : Word) : List Byte → State
  | [] => s
  | b :: rest => { s with mem := Memory.write s.mem (s.progAddr pc) b }.placeBytes (pc + 1#16) rest

/-- The input script without a reset in its next entry. -/
def withoutReset : List Pins → List Pins
  | [] => []
  | p :: rest => { p with reset := false } :: rest

/-- The state with the four bytes of a table word at PC, about to run that instruction: running, no interrupt accepted
at this boundary, no reset in this step, no store pending against the prefetch (log 29). -/
def State.placeWord (s : State) (nbits w : Nat) : State :=
  { s.placeBytes s.pc (tableWordBytes nbits w) with
    runState := .running
    inhibitInt := true
    env := withoutReset s.env
    lateStore := none }

end Sys2Proof.Machine
end

