-- ==== Sys2Proof/Machine/Step.lean ====
section
/-! DEFINITION. One step of the core: one instruction, one exception entry, one reset, or one wait in a standby state
(60_exceptions.md R603). -/

namespace Sys2Proof.Machine

/-- `Step()` of 60_exceptions.md R603, from a state whose inputs are sampled. -/
def stepSampled (s : State) : Host.Outcome State Fault Refusal :=
  match s.boundaryAction with
  | .reset => .next s.resetSequence
  | .enter lvl => .next (s.enterInterrupt lvl)
  | .wait => .next s
  | .execute =>
    match s.fetch with
    | .ok (i, t) => exec i t
    | .error e => .fault (.undefinedCode e)

/-- One step: the inputs are sampled once, then `Step()` of 60_exceptions.md R603 runs. -/
def step (s : State) : Host.Outcome State Fault Refusal := stepSampled s.sample

/-- The state with the instruction of a table word stored where the next step fetches it, and nothing in the way of
that fetch (log 29). -/
def State.withFetchWord (s : State) (nbits w : Nat) : State := s.placeWord nbits w

end Sys2Proof.Machine
end

