-- ==== Sys2Proof/Certificates/Slice0/Forms.lean ====
section
/-! DEFINITION. The words that the statements use: which instructions belong to a family, with the operands each one
names, and what a frame keeps. -/

namespace Sys2Proof.Claims

open Sys2Proof.Machine

/-! ### Frames -/

/-- The bytes of the register file; PC is not among them. -/
inductive RegByte where
  | a
  | b
  | l
  | h
  | br
  | sc
  | nb
  | cb
  | ep
  | xp
  | yp
  | ixHigh
  | ixLow
  | iyHigh
  | iyLow
  | spHigh
  | spLow
deriving DecidableEq, Repr

/-- The value of a byte of the register file. -/
def regByte (s : State) (r : RegByte) : Byte :=
  match r with
  | .a => s.a
  | .b => s.b
  | .l => s.l
  | .h => s.h
  | .br => s.br
  | .sc => s.sc
  | .nb => s.nb
  | .cb => s.cb
  | .ep => s.ep
  | .xp => s.xp
  | .yp => s.yp
  | .ixHigh => highByte s.ix
  | .ixLow => lowByte s.ix
  | .iyHigh => highByte s.iy
  | .iyLow => lowByte s.iy
  | .spHigh => highByte s.sp
  | .spLow => lowByte s.sp

/-- The byte that an 8-bit register is. -/
def byteOf (r : Reg8) : RegByte :=
  match r with
  | .a => .a
  | .b => .b
  | .l => .l
  | .h => .h
  | .br => .br
  | .sc => .sc
  | .nb => .nb
  | .ep => .ep
  | .xp => .xp
  | .yp => .yp

/-- The two bytes that a pair or a 16-bit register is, high byte first (10_state.md R12). -/
def bytesOf (r : Reg16) : List RegByte :=
  match r with
  | .ba => [.b, .a]
  | .hl => [.h, .l]
  | .ix => [.ixHigh, .ixLow]
  | .iy => [.iyHigh, .iyLow]
  | .sp => [.spHigh, .spLow]

/-- Every byte of the register file outside `changed` is the same in `t` as in `s`. -/
def KeepsRegs (changed : List RegByte) (s t : State) : Prop := ∀ r, r ∉ changed → regByte t r = regByte s r

/-- Every byte of memory outside the addresses `stored` reads in `t` as it read in `s`. -/
def KeepsMem (stored : List Nat) (s t : State) : Prop := ∀ addr, addr ∉ stored → t.readMem addr = s.readMem addr

/-- The run state is `run`, interrupts are held off at the next boundary iff `hold`, and the pending NMI, the CPU
model, the mode and the inputs are the same in `t` as in `s`. -/
def Control (run : RunState) (hold : Bool) (s t : State) : Prop :=
  t.runState = run ∧ t.inhibitInt = hold ∧ t.nmiPending = s.nmiPending ∧ t.model = s.model ∧ t.mode = s.mode ∧
    t.pins = s.pins ∧ t.env = s.env

/-- PC, the run state, the interrupt hold and everything else that `Control` speaks of are kept. -/
def KeepsControl (s t : State) : Prop := t.pc = s.pc ∧ Control s.runState s.inhibitInt s t

/-- I1, I0, U and D are the same in `t` as in `s`. -/
def KeepsModeBits (s t : State) : Prop := t.sc.extractLsb' 4 4 = s.sc.extractLsb' 4 4

/-- The flags N, V, C, Z have these values in `t`, and I1, I0, U, D are kept. -/
def Flags (n v c z : Bool) (s t : State) : Prop :=
  t.flagN = n ∧ t.flagV = v ∧ t.flagC = c ∧ t.flagZ = z ∧ KeepsModeBits s t

/-- An 8-bit destination holds `v` in `t`; of registers and memory, nothing else changed but the registers `also`. -/
def Writes8 (dst : Operand8) (v : Byte) (also : List RegByte) (s t : State) : Prop :=
  match dst with
  | .reg r => t.reg8 r = v ∧ KeepsRegs (byteOf r :: also) s t ∧ KeepsMem [] s t
  | .mem m => t.readMem (s.operandAddr m) = v ∧ KeepsRegs also s t ∧ KeepsMem [s.operandAddr m] s t
  | .imm _ => False

/-- A 16-bit register holds `v` in `t`; of registers and memory, nothing else changed but the registers `also`. -/
def WritesReg16 (dst : Reg16) (v : Word) (also : List RegByte) (s t : State) : Prop :=
  t.reg16 dst = v ∧ KeepsRegs (bytesOf dst ++ also) s t ∧ KeepsMem [] s t

/-- The physical address `k` bytes below SP, in page SPP (20_memory.md R74). -/
def belowSP (s : State) (k : Nat) : Nat := s.dataAddr s.pins.spp (s.sp - BitVec.ofNat 16 k)

/-- The byte `k` places above the top of the stack. -/
def stackByte (s : State) (k : Nat) : Byte := s.readMem (s.dataAddr s.pins.spp (s.sp + BitVec.ofNat 16 k))

/-- The bytes `bs` were pushed in this order (20_memory.md R75): SP went down by their number, the first lies just below
the old SP, the others each below the one before, and no other byte of memory changed. -/
def Pushed (bs : List Byte) (s t : State) : Prop :=
  t.sp = s.sp - BitVec.ofNat 16 bs.length ∧
    (∀ k, k < bs.length → some (t.readMem (belowSP s (k + 1))) = bs[k]?) ∧
    KeepsMem ((List.range bs.length).map fun k => belowSP s (k + 1)) s t

/-- What a call saves: CB in maximum mode, then the return address, high byte first (48_branch.md R543). -/
def returnInfo (s : State) (ret : Word) : List Byte :=
  (if s.maxMode then [s.cb] else []) ++ [highByte ret, lowByte ret]

/-- What taking an exception leaves (60_exceptions.md R620): the return information and `sc` pushed, PC from the vector
(read after the pushes), SC = `sc` with I1 I0 replaced where `mask` says so, the core running, interrupts not held off,
NMI pending iff `pending`, and nothing else changed. -/
def EntersException (v : Byte) (ret : Word) (mask : Option (BitVec 2)) (sc : Byte) (pending : Bool) (s t : State) : Prop :=
  Pushed (returnInfo s ret ++ [sc]) s t ∧
    t.pc = word16 (t.readMem (v.toNat + 1)) (t.readMem v.toNat) ∧
    t.sc.extractLsb' 0 6 = sc.extractLsb' 0 6 ∧ t.sc.extractLsb' 6 2 = mask.getD (sc.extractLsb' 6 2) ∧
    KeepsRegs [.sc, .spHigh, .spLow] s t ∧ Control .running false { s with nmiPending := pending } t

/-! ### Results, written out a second time from the spec -/

/-- The result and the bit shifted out of a shift or rotate of `x` with C = `c` before it
(46_rotate_shift.md R470 to R493). -/
def shifted (k : ShiftKind) (x : Byte) (c : Bool) : Nat × Bool :=
  match k with
  | .rl => (x.toNat * 2 % 256 + c.toNat, x.getLsbD 7)
  | .rlc => (x.toNat * 2 % 256 + x.toNat / 128, x.getLsbD 7)
  | .rr => (x.toNat / 2 + 128 * c.toNat, x.getLsbD 0)
  | .rrc => (x.toNat / 2 + 128 * (x.toNat % 2), x.getLsbD 0)
  | .sla => (x.toNat * 2 % 256, x.getLsbD 7)
  | .sll => (x.toNat * 2 % 256, x.getLsbD 7)
  | .sra => (x.toNat / 2 + 128 * (x.toNat / 128), x.getLsbD 0)
  | .srl => (x.toNat / 2, x.getLsbD 0)

/-- V after a shift or rotate of `x` with V = `v` before it (46_rotate_shift.md R470 to R493). -/
def shiftedV (k : ShiftKind) (x : Byte) (v : Bool) : Bool :=
  match k with
  | .sla => x.getLsbD 7 ^^ x.getLsbD 6
  | .sra => false
  | .rl => v
  | .rlc => v
  | .rr => v
  | .rrc => v
  | .sll => v
  | .srl => v

/-- AND, OR, XOR of two bytes. -/
def bitwise (op : LogicOp) (x y : Byte) : Byte :=
  match op with
  | .and => x &&& y
  | .or => x ||| y
  | .xor => x ^^^ y

/-- ADD, ADC, SUB, SBC in binary, with carry or borrow `c` (10_state.md R46, R48, R49). -/
def binaryResult {w : Nat} (op : ArithOp) (x y : BitVec w) (c : Bool) : Alu w :=
  match op with
  | .add => addBin x y false
  | .adc => addBin x y c
  | .sub => subBin x y false
  | .sbc => subBin x y c

/-! ### Families -/

/-- LD with an 8-bit register as destination, on every model: destination, source (40_transfer8.md R130 to R152). -/
inductive RegisterLoad8 : Instr → Reg8 → Operand8 → Prop where
  | ldA_A : RegisterLoad8 .ldA_A .a (.reg .a)
  | ldA_B : RegisterLoad8 .ldA_B .a (.reg .b)
  | ldA_L : RegisterLoad8 .ldA_L .a (.reg .l)
  | ldA_H : RegisterLoad8 .ldA_H .a (.reg .h)
  | ldB_A : RegisterLoad8 .ldB_A .b (.reg .a)
  | ldB_B : RegisterLoad8 .ldB_B .b (.reg .b)
  | ldB_L : RegisterLoad8 .ldB_L .b (.reg .l)
  | ldB_H : RegisterLoad8 .ldB_H .b (.reg .h)
  | ldL_A : RegisterLoad8 .ldL_A .l (.reg .a)
  | ldL_B : RegisterLoad8 .ldL_B .l (.reg .b)
  | ldL_L : RegisterLoad8 .ldL_L .l (.reg .l)
  | ldL_H : RegisterLoad8 .ldL_H .l (.reg .h)
  | ldH_A : RegisterLoad8 .ldH_A .h (.reg .a)
  | ldH_B : RegisterLoad8 .ldH_B .h (.reg .b)
  | ldH_L : RegisterLoad8 .ldH_L .h (.reg .l)
  | ldH_H : RegisterLoad8 .ldH_H .h (.reg .h)
  | ldA_BR : RegisterLoad8 .ldA_BR .a (.reg .br)
  | ldA_SC : RegisterLoad8 .ldA_SC .a (.reg .sc)
  | ldBR_A : RegisterLoad8 .ldBR_A .br (.reg .a)
  | ldA_imm (nn : Byte) : RegisterLoad8 (.ldA_imm nn) .a (.imm nn)
  | ldB_imm (nn : Byte) : RegisterLoad8 (.ldB_imm nn) .b (.imm nn)
  | ldL_imm (nn : Byte) : RegisterLoad8 (.ldL_imm nn) .l (.imm nn)
  | ldH_imm (nn : Byte) : RegisterLoad8 (.ldH_imm nn) .h (.imm nn)
  | ldBR_imm (hh : Byte) : RegisterLoad8 (.ldBR_imm hh) .br (.imm hh)
  | ldA_atBRll (ll : Byte) : RegisterLoad8 (.ldA_atBRll ll) .a (.mem (.atBRll ll))
  | ldB_atBRll (ll : Byte) : RegisterLoad8 (.ldB_atBRll ll) .b (.mem (.atBRll ll))
  | ldL_atBRll (ll : Byte) : RegisterLoad8 (.ldL_atBRll ll) .l (.mem (.atBRll ll))
  | ldH_atBRll (ll : Byte) : RegisterLoad8 (.ldH_atBRll ll) .h (.mem (.atBRll ll))
  | ldA_athhll (hhll : Word) : RegisterLoad8 (.ldA_athhll hhll) .a (.mem (.athhll hhll))
  | ldB_athhll (hhll : Word) : RegisterLoad8 (.ldB_athhll hhll) .b (.mem (.athhll hhll))
  | ldL_athhll (hhll : Word) : RegisterLoad8 (.ldL_athhll hhll) .l (.mem (.athhll hhll))
  | ldH_athhll (hhll : Word) : RegisterLoad8 (.ldH_athhll hhll) .h (.mem (.athhll hhll))
  | ldA_atHL : RegisterLoad8 .ldA_atHL .a (.mem .atHL)
  | ldB_atHL : RegisterLoad8 .ldB_atHL .b (.mem .atHL)
  | ldL_atHL : RegisterLoad8 .ldL_atHL .l (.mem .atHL)
  | ldH_atHL : RegisterLoad8 .ldH_atHL .h (.mem .atHL)
  | ldA_atIX : RegisterLoad8 .ldA_atIX .a (.mem .atIX)
  | ldB_atIX : RegisterLoad8 .ldB_atIX .b (.mem .atIX)
  | ldL_atIX : RegisterLoad8 .ldL_atIX .l (.mem .atIX)
  | ldH_atIX : RegisterLoad8 .ldH_atIX .h (.mem .atIX)
  | ldA_atIY : RegisterLoad8 .ldA_atIY .a (.mem .atIY)
  | ldB_atIY : RegisterLoad8 .ldB_atIY .b (.mem .atIY)
  | ldL_atIY : RegisterLoad8 .ldL_atIY .l (.mem .atIY)
  | ldH_atIY : RegisterLoad8 .ldH_atIY .h (.mem .atIY)
  | ldA_atIXdd (dd : Byte) : RegisterLoad8 (.ldA_atIXdd dd) .a (.mem (.atIXdd dd))
  | ldB_atIXdd (dd : Byte) : RegisterLoad8 (.ldB_atIXdd dd) .b (.mem (.atIXdd dd))
  | ldL_atIXdd (dd : Byte) : RegisterLoad8 (.ldL_atIXdd dd) .l (.mem (.atIXdd dd))
  | ldH_atIXdd (dd : Byte) : RegisterLoad8 (.ldH_atIXdd dd) .h (.mem (.atIXdd dd))
  | ldA_atIYdd (dd : Byte) : RegisterLoad8 (.ldA_atIYdd dd) .a (.mem (.atIYdd dd))
  | ldB_atIYdd (dd : Byte) : RegisterLoad8 (.ldB_atIYdd dd) .b (.mem (.atIYdd dd))
  | ldL_atIYdd (dd : Byte) : RegisterLoad8 (.ldL_atIYdd dd) .l (.mem (.atIYdd dd))
  | ldH_atIYdd (dd : Byte) : RegisterLoad8 (.ldH_atIYdd dd) .h (.mem (.atIYdd dd))
  | ldA_atIXL : RegisterLoad8 .ldA_atIXL .a (.mem .atIXL)
  | ldB_atIXL : RegisterLoad8 .ldB_atIXL .b (.mem .atIXL)
  | ldL_atIXL : RegisterLoad8 .ldL_atIXL .l (.mem .atIXL)
  | ldH_atIXL : RegisterLoad8 .ldH_atIXL .h (.mem .atIXL)
  | ldA_atIYL : RegisterLoad8 .ldA_atIYL .a (.mem .atIYL)
  | ldB_atIYL : RegisterLoad8 .ldB_atIYL .b (.mem .atIYL)
  | ldL_atIYL : RegisterLoad8 .ldL_atIYL .l (.mem .atIYL)
  | ldH_atIYL : RegisterLoad8 .ldH_atIYL .h (.mem .atIYL)

/-- LD with a byte of memory as destination: destination, source (40_transfer8.md R153 to R182). -/
inductive MemoryLoad8 : Instr → MemOperand → Operand8 → Prop where
  | ld_atBRll_A (ll : Byte) : MemoryLoad8 (.ld_atBRll_A ll) (.atBRll ll) (.reg .a)
  | ld_atBRll_B (ll : Byte) : MemoryLoad8 (.ld_atBRll_B ll) (.atBRll ll) (.reg .b)
  | ld_atBRll_L (ll : Byte) : MemoryLoad8 (.ld_atBRll_L ll) (.atBRll ll) (.reg .l)
  | ld_atBRll_H (ll : Byte) : MemoryLoad8 (.ld_atBRll_H ll) (.atBRll ll) (.reg .h)
  | ld_athhll_A (hhll : Word) : MemoryLoad8 (.ld_athhll_A hhll) (.athhll hhll) (.reg .a)
  | ld_athhll_B (hhll : Word) : MemoryLoad8 (.ld_athhll_B hhll) (.athhll hhll) (.reg .b)
  | ld_athhll_L (hhll : Word) : MemoryLoad8 (.ld_athhll_L hhll) (.athhll hhll) (.reg .l)
  | ld_athhll_H (hhll : Word) : MemoryLoad8 (.ld_athhll_H hhll) (.athhll hhll) (.reg .h)
  | ld_atHL_A : MemoryLoad8 .ld_atHL_A .atHL (.reg .a)
  | ld_atHL_B : MemoryLoad8 .ld_atHL_B .atHL (.reg .b)
  | ld_atHL_L : MemoryLoad8 .ld_atHL_L .atHL (.reg .l)
  | ld_atHL_H : MemoryLoad8 .ld_atHL_H .atHL (.reg .h)
  | ld_atIX_A : MemoryLoad8 .ld_atIX_A .atIX (.reg .a)
  | ld_atIX_B : MemoryLoad8 .ld_atIX_B .atIX (.reg .b)
  | ld_atIX_L : MemoryLoad8 .ld_atIX_L .atIX (.reg .l)
  | ld_atIX_H : MemoryLoad8 .ld_atIX_H .atIX (.reg .h)
  | ld_atIY_A : MemoryLoad8 .ld_atIY_A .atIY (.reg .a)
  | ld_atIY_B : MemoryLoad8 .ld_atIY_B .atIY (.reg .b)
  | ld_atIY_L : MemoryLoad8 .ld_atIY_L .atIY (.reg .l)
  | ld_atIY_H : MemoryLoad8 .ld_atIY_H .atIY (.reg .h)
  | ld_atIXdd_A (dd : Byte) : MemoryLoad8 (.ld_atIXdd_A dd) (.atIXdd dd) (.reg .a)
  | ld_atIXdd_B (dd : Byte) : MemoryLoad8 (.ld_atIXdd_B dd) (.atIXdd dd) (.reg .b)
  | ld_atIXdd_L (dd : Byte) : MemoryLoad8 (.ld_atIXdd_L dd) (.atIXdd dd) (.reg .l)
  | ld_atIXdd_H (dd : Byte) : MemoryLoad8 (.ld_atIXdd_H dd) (.atIXdd dd) (.reg .h)
  | ld_atIYdd_A (dd : Byte) : MemoryLoad8 (.ld_atIYdd_A dd) (.atIYdd dd) (.reg .a)
  | ld_atIYdd_B (dd : Byte) : MemoryLoad8 (.ld_atIYdd_B dd) (.atIYdd dd) (.reg .b)
  | ld_atIYdd_L (dd : Byte) : MemoryLoad8 (.ld_atIYdd_L dd) (.atIYdd dd) (.reg .l)
  | ld_atIYdd_H (dd : Byte) : MemoryLoad8 (.ld_atIYdd_H dd) (.atIYdd dd) (.reg .h)
  | ld_atIXL_A : MemoryLoad8 .ld_atIXL_A .atIXL (.reg .a)
  | ld_atIXL_B : MemoryLoad8 .ld_atIXL_B .atIXL (.reg .b)
  | ld_atIXL_L : MemoryLoad8 .ld_atIXL_L .atIXL (.reg .l)
  | ld_atIXL_H : MemoryLoad8 .ld_atIXL_H .atIXL (.reg .h)
  | ld_atIYL_A : MemoryLoad8 .ld_atIYL_A .atIYL (.reg .a)
  | ld_atIYL_B : MemoryLoad8 .ld_atIYL_B .atIYL (.reg .b)
  | ld_atIYL_L : MemoryLoad8 .ld_atIYL_L .atIYL (.reg .l)
  | ld_atIYL_H : MemoryLoad8 .ld_atIYL_H .atIYL (.reg .h)
  | ld_atBRll_imm (ll : Byte) (nn : Byte) : MemoryLoad8 (.ld_atBRll_imm ll nn) (.atBRll ll) (.imm nn)
  | ld_atHL_imm (nn : Byte) : MemoryLoad8 (.ld_atHL_imm nn) .atHL (.imm nn)
  | ld_atIX_imm (nn : Byte) : MemoryLoad8 (.ld_atIX_imm nn) .atIX (.imm nn)
  | ld_atIY_imm (nn : Byte) : MemoryLoad8 (.ld_atIY_imm nn) .atIY (.imm nn)
  | ld_atBRll_atHL (ll : Byte) : MemoryLoad8 (.ld_atBRll_atHL ll) (.atBRll ll) (.mem .atHL)
  | ld_atBRll_atIX (ll : Byte) : MemoryLoad8 (.ld_atBRll_atIX ll) (.atBRll ll) (.mem .atIX)
  | ld_atBRll_atIY (ll : Byte) : MemoryLoad8 (.ld_atBRll_atIY ll) (.atBRll ll) (.mem .atIY)
  | ld_atHL_atBRll (ll : Byte) : MemoryLoad8 (.ld_atHL_atBRll ll) .atHL (.mem (.atBRll ll))
  | ld_atHL_atHL : MemoryLoad8 .ld_atHL_atHL .atHL (.mem .atHL)
  | ld_atHL_atIX : MemoryLoad8 .ld_atHL_atIX .atHL (.mem .atIX)
  | ld_atHL_atIY : MemoryLoad8 .ld_atHL_atIY .atHL (.mem .atIY)
  | ld_atHL_atIXdd (dd : Byte) : MemoryLoad8 (.ld_atHL_atIXdd dd) .atHL (.mem (.atIXdd dd))
  | ld_atHL_atIYdd (dd : Byte) : MemoryLoad8 (.ld_atHL_atIYdd dd) .atHL (.mem (.atIYdd dd))
  | ld_atHL_atIXL : MemoryLoad8 .ld_atHL_atIXL .atHL (.mem .atIXL)
  | ld_atHL_atIYL : MemoryLoad8 .ld_atHL_atIYL .atHL (.mem .atIYL)
  | ld_atIX_atBRll (ll : Byte) : MemoryLoad8 (.ld_atIX_atBRll ll) .atIX (.mem (.atBRll ll))
  | ld_atIX_atHL : MemoryLoad8 .ld_atIX_atHL .atIX (.mem .atHL)
  | ld_atIX_atIX : MemoryLoad8 .ld_atIX_atIX .atIX (.mem .atIX)
  | ld_atIX_atIY : MemoryLoad8 .ld_atIX_atIY .atIX (.mem .atIY)
  | ld_atIX_atIXdd (dd : Byte) : MemoryLoad8 (.ld_atIX_atIXdd dd) .atIX (.mem (.atIXdd dd))
  | ld_atIX_atIYdd (dd : Byte) : MemoryLoad8 (.ld_atIX_atIYdd dd) .atIX (.mem (.atIYdd dd))
  | ld_atIX_atIXL : MemoryLoad8 .ld_atIX_atIXL .atIX (.mem .atIXL)
  | ld_atIX_atIYL : MemoryLoad8 .ld_atIX_atIYL .atIX (.mem .atIYL)
  | ld_atIY_atBRll (ll : Byte) : MemoryLoad8 (.ld_atIY_atBRll ll) .atIY (.mem (.atBRll ll))
  | ld_atIY_atHL : MemoryLoad8 .ld_atIY_atHL .atIY (.mem .atHL)
  | ld_atIY_atIX : MemoryLoad8 .ld_atIY_atIX .atIY (.mem .atIX)
  | ld_atIY_atIY : MemoryLoad8 .ld_atIY_atIY .atIY (.mem .atIY)
  | ld_atIY_atIXdd (dd : Byte) : MemoryLoad8 (.ld_atIY_atIXdd dd) .atIY (.mem (.atIXdd dd))
  | ld_atIY_atIYdd (dd : Byte) : MemoryLoad8 (.ld_atIY_atIYdd dd) .atIY (.mem (.atIYdd dd))
  | ld_atIY_atIXL : MemoryLoad8 .ld_atIY_atIXL .atIY (.mem .atIXL)
  | ld_atIY_atIYL : MemoryLoad8 .ld_atIY_atIYL .atIY (.mem .atIYL)

/-- LD with NB, EP, XP or YP as an operand: destination, source (40_transfer8.md R135 to R140). -/
inductive BankRegisterLoad : Instr → Reg8 → Operand8 → Prop where
  | ldNB_imm (bb : Byte) : BankRegisterLoad (.ldNB_imm bb) .nb (.imm bb)
  | ldEP_imm (pp : Byte) : BankRegisterLoad (.ldEP_imm pp) .ep (.imm pp)
  | ldXP_imm (pp : Byte) : BankRegisterLoad (.ldXP_imm pp) .xp (.imm pp)
  | ldYP_imm (pp : Byte) : BankRegisterLoad (.ldYP_imm pp) .yp (.imm pp)
  | ldA_NB : BankRegisterLoad .ldA_NB .a (.reg .nb)
  | ldA_EP : BankRegisterLoad .ldA_EP .a (.reg .ep)
  | ldA_XP : BankRegisterLoad .ldA_XP .a (.reg .xp)
  | ldA_YP : BankRegisterLoad .ldA_YP .a (.reg .yp)
  | ldNB_A : BankRegisterLoad .ldNB_A .nb (.reg .a)
  | ldEP_A : BankRegisterLoad .ldEP_A .ep (.reg .a)
  | ldXP_A : BankRegisterLoad .ldXP_A .xp (.reg .a)
  | ldYP_A : BankRegisterLoad .ldYP_A .yp (.reg .a)

/-- LD with a 16-bit register as destination: destination, source (41_transfer16.md R210 to R225). -/
inductive RegisterLoad16 : Instr → Reg16 → Operand16 → Prop where
  | ldBA_BA : RegisterLoad16 .ldBA_BA .ba (.reg .ba)
  | ldBA_HL : RegisterLoad16 .ldBA_HL .ba (.reg .hl)
  | ldBA_IX : RegisterLoad16 .ldBA_IX .ba (.reg .ix)
  | ldBA_IY : RegisterLoad16 .ldBA_IY .ba (.reg .iy)
  | ldHL_BA : RegisterLoad16 .ldHL_BA .hl (.reg .ba)
  | ldHL_HL : RegisterLoad16 .ldHL_HL .hl (.reg .hl)
  | ldHL_IX : RegisterLoad16 .ldHL_IX .hl (.reg .ix)
  | ldHL_IY : RegisterLoad16 .ldHL_IY .hl (.reg .iy)
  | ldIX_BA : RegisterLoad16 .ldIX_BA .ix (.reg .ba)
  | ldIX_HL : RegisterLoad16 .ldIX_HL .ix (.reg .hl)
  | ldIX_IX : RegisterLoad16 .ldIX_IX .ix (.reg .ix)
  | ldIX_IY : RegisterLoad16 .ldIX_IY .ix (.reg .iy)
  | ldIY_BA : RegisterLoad16 .ldIY_BA .iy (.reg .ba)
  | ldIY_HL : RegisterLoad16 .ldIY_HL .iy (.reg .hl)
  | ldIY_IX : RegisterLoad16 .ldIY_IX .iy (.reg .ix)
  | ldIY_IY : RegisterLoad16 .ldIY_IY .iy (.reg .iy)
  | ldBA_PC : RegisterLoad16 .ldBA_PC .ba .pc
  | ldBA_SP : RegisterLoad16 .ldBA_SP .ba (.reg .sp)
  | ldHL_PC : RegisterLoad16 .ldHL_PC .hl .pc
  | ldHL_SP : RegisterLoad16 .ldHL_SP .hl (.reg .sp)
  | ldIX_SP : RegisterLoad16 .ldIX_SP .ix (.reg .sp)
  | ldIY_SP : RegisterLoad16 .ldIY_SP .iy (.reg .sp)
  | ldSP_BA : RegisterLoad16 .ldSP_BA .sp (.reg .ba)
  | ldSP_HL : RegisterLoad16 .ldSP_HL .sp (.reg .hl)
  | ldSP_IX : RegisterLoad16 .ldSP_IX .sp (.reg .ix)
  | ldSP_IY : RegisterLoad16 .ldSP_IY .sp (.reg .iy)
  | ldBA_imm (mmnn : Word) : RegisterLoad16 (.ldBA_imm mmnn) .ba (.imm mmnn)
  | ldHL_imm (mmnn : Word) : RegisterLoad16 (.ldHL_imm mmnn) .hl (.imm mmnn)
  | ldIX_imm (mmnn : Word) : RegisterLoad16 (.ldIX_imm mmnn) .ix (.imm mmnn)
  | ldIY_imm (mmnn : Word) : RegisterLoad16 (.ldIY_imm mmnn) .iy (.imm mmnn)
  | ldSP_imm (mmnn : Word) : RegisterLoad16 (.ldSP_imm mmnn) .sp (.imm mmnn)
  | ldBA_athhll (hhll : Word) : RegisterLoad16 (.ldBA_athhll hhll) .ba (.mem (.athhll hhll))
  | ldHL_athhll (hhll : Word) : RegisterLoad16 (.ldHL_athhll hhll) .hl (.mem (.athhll hhll))
  | ldIX_athhll (hhll : Word) : RegisterLoad16 (.ldIX_athhll hhll) .ix (.mem (.athhll hhll))
  | ldIY_athhll (hhll : Word) : RegisterLoad16 (.ldIY_athhll hhll) .iy (.mem (.athhll hhll))
  | ldSP_athhll (hhll : Word) : RegisterLoad16 (.ldSP_athhll hhll) .sp (.mem (.athhll hhll))
  | ldBA_atHL : RegisterLoad16 .ldBA_atHL .ba (.mem .atHL)
  | ldHL_atHL : RegisterLoad16 .ldHL_atHL .hl (.mem .atHL)
  | ldIX_atHL : RegisterLoad16 .ldIX_atHL .ix (.mem .atHL)
  | ldIY_atHL : RegisterLoad16 .ldIY_atHL .iy (.mem .atHL)
  | ldBA_atIX : RegisterLoad16 .ldBA_atIX .ba (.mem .atIX)
  | ldHL_atIX : RegisterLoad16 .ldHL_atIX .hl (.mem .atIX)
  | ldIX_atIX : RegisterLoad16 .ldIX_atIX .ix (.mem .atIX)
  | ldIY_atIX : RegisterLoad16 .ldIY_atIX .iy (.mem .atIX)
  | ldBA_atIY : RegisterLoad16 .ldBA_atIY .ba (.mem .atIY)
  | ldHL_atIY : RegisterLoad16 .ldHL_atIY .hl (.mem .atIY)
  | ldIX_atIY : RegisterLoad16 .ldIX_atIY .ix (.mem .atIY)
  | ldIY_atIY : RegisterLoad16 .ldIY_atIY .iy (.mem .atIY)
  | ldBA_atSPdd (dd : Byte) : RegisterLoad16 (.ldBA_atSPdd dd) .ba (.mem (.atSPdd dd))
  | ldHL_atSPdd (dd : Byte) : RegisterLoad16 (.ldHL_atSPdd dd) .hl (.mem (.atSPdd dd))
  | ldIX_atSPdd (dd : Byte) : RegisterLoad16 (.ldIX_atSPdd dd) .ix (.mem (.atSPdd dd))
  | ldIY_atSPdd (dd : Byte) : RegisterLoad16 (.ldIY_atSPdd dd) .iy (.mem (.atSPdd dd))

/-- LD with two bytes of memory as destination: destination, source (41_transfer16.md R226 to R231). -/
inductive MemoryLoad16 : Instr → MemOperand → Reg16 → Prop where
  | ld_athhll_BA (hhll : Word) : MemoryLoad16 (.ld_athhll_BA hhll) (.athhll hhll) .ba
  | ld_athhll_HL (hhll : Word) : MemoryLoad16 (.ld_athhll_HL hhll) (.athhll hhll) .hl
  | ld_athhll_IX (hhll : Word) : MemoryLoad16 (.ld_athhll_IX hhll) (.athhll hhll) .ix
  | ld_athhll_IY (hhll : Word) : MemoryLoad16 (.ld_athhll_IY hhll) (.athhll hhll) .iy
  | ld_athhll_SP (hhll : Word) : MemoryLoad16 (.ld_athhll_SP hhll) (.athhll hhll) .sp
  | ld_atHL_BA : MemoryLoad16 .ld_atHL_BA .atHL .ba
  | ld_atHL_HL : MemoryLoad16 .ld_atHL_HL .atHL .hl
  | ld_atHL_IX : MemoryLoad16 .ld_atHL_IX .atHL .ix
  | ld_atHL_IY : MemoryLoad16 .ld_atHL_IY .atHL .iy
  | ld_atIX_BA : MemoryLoad16 .ld_atIX_BA .atIX .ba
  | ld_atIX_HL : MemoryLoad16 .ld_atIX_HL .atIX .hl
  | ld_atIX_IX : MemoryLoad16 .ld_atIX_IX .atIX .ix
  | ld_atIX_IY : MemoryLoad16 .ld_atIX_IY .atIX .iy
  | ld_atIY_BA : MemoryLoad16 .ld_atIY_BA .atIY .ba
  | ld_atIY_HL : MemoryLoad16 .ld_atIY_HL .atIY .hl
  | ld_atIY_IX : MemoryLoad16 .ld_atIY_IX .atIY .ix
  | ld_atIY_IY : MemoryLoad16 .ld_atIY_IY .atIY .iy
  | ld_atSPdd_BA (dd : Byte) : MemoryLoad16 (.ld_atSPdd_BA dd) (.atSPdd dd) .ba
  | ld_atSPdd_HL (dd : Byte) : MemoryLoad16 (.ld_atSPdd_HL dd) (.atSPdd dd) .hl
  | ld_atSPdd_IX (dd : Byte) : MemoryLoad16 (.ld_atSPdd_IX dd) (.atSPdd dd) .ix
  | ld_atSPdd_IY (dd : Byte) : MemoryLoad16 (.ld_atSPdd_IY dd) (.atSPdd dd) .iy

/-- ADD, ADC, SUB, SBC on 8 bits: operation, destination, source (42_alu8_arith.md R250 to R293). -/
inductive Arithmetic8 : Instr → ArithOp → Operand8 → Operand8 → Prop where
  | addA_A : Arithmetic8 .addA_A .add (.reg .a) (.reg .a)
  | addA_B : Arithmetic8 .addA_B .add (.reg .a) (.reg .b)
  | addA_imm (nn : Byte) : Arithmetic8 (.addA_imm nn) .add (.reg .a) (.imm nn)
  | addA_atBRll (ll : Byte) : Arithmetic8 (.addA_atBRll ll) .add (.reg .a) (.mem (.atBRll ll))
  | addA_athhll (hhll : Word) : Arithmetic8 (.addA_athhll hhll) .add (.reg .a) (.mem (.athhll hhll))
  | addA_atHL : Arithmetic8 .addA_atHL .add (.reg .a) (.mem .atHL)
  | addA_atIX : Arithmetic8 .addA_atIX .add (.reg .a) (.mem .atIX)
  | addA_atIY : Arithmetic8 .addA_atIY .add (.reg .a) (.mem .atIY)
  | addA_atIXdd (dd : Byte) : Arithmetic8 (.addA_atIXdd dd) .add (.reg .a) (.mem (.atIXdd dd))
  | addA_atIYdd (dd : Byte) : Arithmetic8 (.addA_atIYdd dd) .add (.reg .a) (.mem (.atIYdd dd))
  | addA_atIXL : Arithmetic8 .addA_atIXL .add (.reg .a) (.mem .atIXL)
  | addA_atIYL : Arithmetic8 .addA_atIYL .add (.reg .a) (.mem .atIYL)
  | add_atHL_A : Arithmetic8 .add_atHL_A .add (.mem .atHL) (.reg .a)
  | add_atHL_imm (nn : Byte) : Arithmetic8 (.add_atHL_imm nn) .add (.mem .atHL) (.imm nn)
  | add_atHL_atIX : Arithmetic8 .add_atHL_atIX .add (.mem .atHL) (.mem .atIX)
  | add_atHL_atIY : Arithmetic8 .add_atHL_atIY .add (.mem .atHL) (.mem .atIY)
  | adcA_A : Arithmetic8 .adcA_A .adc (.reg .a) (.reg .a)
  | adcA_B : Arithmetic8 .adcA_B .adc (.reg .a) (.reg .b)
  | adcA_imm (nn : Byte) : Arithmetic8 (.adcA_imm nn) .adc (.reg .a) (.imm nn)
  | adcA_atBRll (ll : Byte) : Arithmetic8 (.adcA_atBRll ll) .adc (.reg .a) (.mem (.atBRll ll))
  | adcA_athhll (hhll : Word) : Arithmetic8 (.adcA_athhll hhll) .adc (.reg .a) (.mem (.athhll hhll))
  | adcA_atHL : Arithmetic8 .adcA_atHL .adc (.reg .a) (.mem .atHL)
  | adcA_atIX : Arithmetic8 .adcA_atIX .adc (.reg .a) (.mem .atIX)
  | adcA_atIY : Arithmetic8 .adcA_atIY .adc (.reg .a) (.mem .atIY)
  | adcA_atIXdd (dd : Byte) : Arithmetic8 (.adcA_atIXdd dd) .adc (.reg .a) (.mem (.atIXdd dd))
  | adcA_atIYdd (dd : Byte) : Arithmetic8 (.adcA_atIYdd dd) .adc (.reg .a) (.mem (.atIYdd dd))
  | adcA_atIXL : Arithmetic8 .adcA_atIXL .adc (.reg .a) (.mem .atIXL)
  | adcA_atIYL : Arithmetic8 .adcA_atIYL .adc (.reg .a) (.mem .atIYL)
  | adc_atHL_A : Arithmetic8 .adc_atHL_A .adc (.mem .atHL) (.reg .a)
  | adc_atHL_imm (nn : Byte) : Arithmetic8 (.adc_atHL_imm nn) .adc (.mem .atHL) (.imm nn)
  | adc_atHL_atIX : Arithmetic8 .adc_atHL_atIX .adc (.mem .atHL) (.mem .atIX)
  | adc_atHL_atIY : Arithmetic8 .adc_atHL_atIY .adc (.mem .atHL) (.mem .atIY)
  | subA_A : Arithmetic8 .subA_A .sub (.reg .a) (.reg .a)
  | subA_B : Arithmetic8 .subA_B .sub (.reg .a) (.reg .b)
  | subA_imm (nn : Byte) : Arithmetic8 (.subA_imm nn) .sub (.reg .a) (.imm nn)
  | subA_atBRll (ll : Byte) : Arithmetic8 (.subA_atBRll ll) .sub (.reg .a) (.mem (.atBRll ll))
  | subA_athhll (hhll : Word) : Arithmetic8 (.subA_athhll hhll) .sub (.reg .a) (.mem (.athhll hhll))
  | subA_atHL : Arithmetic8 .subA_atHL .sub (.reg .a) (.mem .atHL)
  | subA_atIX : Arithmetic8 .subA_atIX .sub (.reg .a) (.mem .atIX)
  | subA_atIY : Arithmetic8 .subA_atIY .sub (.reg .a) (.mem .atIY)
  | subA_atIXdd (dd : Byte) : Arithmetic8 (.subA_atIXdd dd) .sub (.reg .a) (.mem (.atIXdd dd))
  | subA_atIYdd (dd : Byte) : Arithmetic8 (.subA_atIYdd dd) .sub (.reg .a) (.mem (.atIYdd dd))
  | subA_atIXL : Arithmetic8 .subA_atIXL .sub (.reg .a) (.mem .atIXL)
  | subA_atIYL : Arithmetic8 .subA_atIYL .sub (.reg .a) (.mem .atIYL)
  | sub_atHL_A : Arithmetic8 .sub_atHL_A .sub (.mem .atHL) (.reg .a)
  | sub_atHL_imm (nn : Byte) : Arithmetic8 (.sub_atHL_imm nn) .sub (.mem .atHL) (.imm nn)
  | sub_atHL_atIX : Arithmetic8 .sub_atHL_atIX .sub (.mem .atHL) (.mem .atIX)
  | sub_atHL_atIY : Arithmetic8 .sub_atHL_atIY .sub (.mem .atHL) (.mem .atIY)
  | sbcA_A : Arithmetic8 .sbcA_A .sbc (.reg .a) (.reg .a)
  | sbcA_B : Arithmetic8 .sbcA_B .sbc (.reg .a) (.reg .b)
  | sbcA_imm (nn : Byte) : Arithmetic8 (.sbcA_imm nn) .sbc (.reg .a) (.imm nn)
  | sbcA_atBRll (ll : Byte) : Arithmetic8 (.sbcA_atBRll ll) .sbc (.reg .a) (.mem (.atBRll ll))
  | sbcA_athhll (hhll : Word) : Arithmetic8 (.sbcA_athhll hhll) .sbc (.reg .a) (.mem (.athhll hhll))
  | sbcA_atHL : Arithmetic8 .sbcA_atHL .sbc (.reg .a) (.mem .atHL)
  | sbcA_atIX : Arithmetic8 .sbcA_atIX .sbc (.reg .a) (.mem .atIX)
  | sbcA_atIY : Arithmetic8 .sbcA_atIY .sbc (.reg .a) (.mem .atIY)
  | sbcA_atIXdd (dd : Byte) : Arithmetic8 (.sbcA_atIXdd dd) .sbc (.reg .a) (.mem (.atIXdd dd))
  | sbcA_atIYdd (dd : Byte) : Arithmetic8 (.sbcA_atIYdd dd) .sbc (.reg .a) (.mem (.atIYdd dd))
  | sbcA_atIXL : Arithmetic8 .sbcA_atIXL .sbc (.reg .a) (.mem .atIXL)
  | sbcA_atIYL : Arithmetic8 .sbcA_atIYL .sbc (.reg .a) (.mem .atIYL)
  | sbc_atHL_A : Arithmetic8 .sbc_atHL_A .sbc (.mem .atHL) (.reg .a)
  | sbc_atHL_imm (nn : Byte) : Arithmetic8 (.sbc_atHL_imm nn) .sbc (.mem .atHL) (.imm nn)
  | sbc_atHL_atIX : Arithmetic8 .sbc_atHL_atIX .sbc (.mem .atHL) (.mem .atIX)
  | sbc_atHL_atIY : Arithmetic8 .sbc_atHL_atIY .sbc (.mem .atHL) (.mem .atIY)

/-- CP on 8 bits: the two operands (42_alu8_arith.md R294 to R309). -/
inductive Compare8 : Instr → Operand8 → Operand8 → Prop where
  | cpA_A : Compare8 .cpA_A (.reg .a) (.reg .a)
  | cpA_B : Compare8 .cpA_B (.reg .a) (.reg .b)
  | cpA_imm (nn : Byte) : Compare8 (.cpA_imm nn) (.reg .a) (.imm nn)
  | cpA_atBRll (ll : Byte) : Compare8 (.cpA_atBRll ll) (.reg .a) (.mem (.atBRll ll))
  | cpA_athhll (hhll : Word) : Compare8 (.cpA_athhll hhll) (.reg .a) (.mem (.athhll hhll))
  | cpA_atHL : Compare8 .cpA_atHL (.reg .a) (.mem .atHL)
  | cpA_atIX : Compare8 .cpA_atIX (.reg .a) (.mem .atIX)
  | cpA_atIY : Compare8 .cpA_atIY (.reg .a) (.mem .atIY)
  | cpA_atIXdd (dd : Byte) : Compare8 (.cpA_atIXdd dd) (.reg .a) (.mem (.atIXdd dd))
  | cpA_atIYdd (dd : Byte) : Compare8 (.cpA_atIYdd dd) (.reg .a) (.mem (.atIYdd dd))
  | cpA_atIXL : Compare8 .cpA_atIXL (.reg .a) (.mem .atIXL)
  | cpA_atIYL : Compare8 .cpA_atIYL (.reg .a) (.mem .atIYL)
  | cpB_imm (nn : Byte) : Compare8 (.cpB_imm nn) (.reg .b) (.imm nn)
  | cpL_imm (nn : Byte) : Compare8 (.cpL_imm nn) (.reg .l) (.imm nn)
  | cpH_imm (nn : Byte) : Compare8 (.cpH_imm nn) (.reg .h) (.imm nn)
  | cpBR_imm (hh : Byte) : Compare8 (.cpBR_imm hh) (.reg .br) (.imm hh)
  | cp_atBRll_imm (ll : Byte) (nn : Byte) : Compare8 (.cp_atBRll_imm ll nn) (.mem (.atBRll ll)) (.imm nn)
  | cp_atHL_A : Compare8 .cp_atHL_A (.mem .atHL) (.reg .a)
  | cp_atHL_imm (nn : Byte) : Compare8 (.cp_atHL_imm nn) (.mem .atHL) (.imm nn)
  | cp_atHL_atIX : Compare8 .cp_atHL_atIX (.mem .atHL) (.mem .atIX)
  | cp_atHL_atIY : Compare8 .cp_atHL_atIY (.mem .atHL) (.mem .atIY)

/-- INC and DEC on 8 bits: operand, and what is added modulo 256 (42_alu8_arith.md R310 to R317). -/
inductive Count8 : Instr → Operand8 → Byte → Prop where
  | incA : Count8 .incA (.reg .a) 0x01#8
  | incB : Count8 .incB (.reg .b) 0x01#8
  | incL : Count8 .incL (.reg .l) 0x01#8
  | incH : Count8 .incH (.reg .h) 0x01#8
  | incBR : Count8 .incBR (.reg .br) 0x01#8
  | inc_atBRll (ll : Byte) : Count8 (.inc_atBRll ll) (.mem (.atBRll ll)) 0x01#8
  | inc_atHL : Count8 .inc_atHL (.mem .atHL) 0x01#8
  | decA : Count8 .decA (.reg .a) 0xFF#8
  | decB : Count8 .decB (.reg .b) 0xFF#8
  | decL : Count8 .decL (.reg .l) 0xFF#8
  | decH : Count8 .decH (.reg .h) 0xFF#8
  | decBR : Count8 .decBR (.reg .br) 0xFF#8
  | dec_atBRll (ll : Byte) : Count8 (.dec_atBRll ll) (.mem (.atBRll ll)) 0xFF#8
  | dec_atHL : Count8 .dec_atHL (.mem .atHL) 0xFF#8

/-- NEG: operand (42_alu8_arith.md R318 to R320). -/
inductive Negate8 : Instr → Operand8 → Prop where
  | negA : Negate8 .negA (.reg .a)
  | negB : Negate8 .negB (.reg .b)
  | neg_atBRll (ll : Byte) : Negate8 (.neg_atBRll ll) (.mem (.atBRll ll))
  | neg_atHL : Negate8 .neg_atHL (.mem .atHL)

/-- AND, OR, XOR with a destination other than SC: operation, destination, source (43_alu8_logic.md R340 to R387). -/
inductive Logic8 : Instr → LogicOp → Operand8 → Operand8 → Prop where
  | andA_A : Logic8 .andA_A .and (.reg .a) (.reg .a)
  | andA_B : Logic8 .andA_B .and (.reg .a) (.reg .b)
  | andA_imm (nn : Byte) : Logic8 (.andA_imm nn) .and (.reg .a) (.imm nn)
  | andA_atBRll (ll : Byte) : Logic8 (.andA_atBRll ll) .and (.reg .a) (.mem (.atBRll ll))
  | andA_athhll (hhll : Word) : Logic8 (.andA_athhll hhll) .and (.reg .a) (.mem (.athhll hhll))
  | andA_atHL : Logic8 .andA_atHL .and (.reg .a) (.mem .atHL)
  | andA_atIX : Logic8 .andA_atIX .and (.reg .a) (.mem .atIX)
  | andA_atIY : Logic8 .andA_atIY .and (.reg .a) (.mem .atIY)
  | andA_atIXdd (dd : Byte) : Logic8 (.andA_atIXdd dd) .and (.reg .a) (.mem (.atIXdd dd))
  | andA_atIYdd (dd : Byte) : Logic8 (.andA_atIYdd dd) .and (.reg .a) (.mem (.atIYdd dd))
  | andA_atIXL : Logic8 .andA_atIXL .and (.reg .a) (.mem .atIXL)
  | andA_atIYL : Logic8 .andA_atIYL .and (.reg .a) (.mem .atIYL)
  | andB_imm (nn : Byte) : Logic8 (.andB_imm nn) .and (.reg .b) (.imm nn)
  | andL_imm (nn : Byte) : Logic8 (.andL_imm nn) .and (.reg .l) (.imm nn)
  | andH_imm (nn : Byte) : Logic8 (.andH_imm nn) .and (.reg .h) (.imm nn)
  | and_atBRll_imm (ll : Byte) (nn : Byte) : Logic8 (.and_atBRll_imm ll nn) .and (.mem (.atBRll ll)) (.imm nn)
  | and_atHL_A : Logic8 .and_atHL_A .and (.mem .atHL) (.reg .a)
  | and_atHL_imm (nn : Byte) : Logic8 (.and_atHL_imm nn) .and (.mem .atHL) (.imm nn)
  | and_atHL_atIX : Logic8 .and_atHL_atIX .and (.mem .atHL) (.mem .atIX)
  | and_atHL_atIY : Logic8 .and_atHL_atIY .and (.mem .atHL) (.mem .atIY)
  | orA_A : Logic8 .orA_A .or (.reg .a) (.reg .a)
  | orA_B : Logic8 .orA_B .or (.reg .a) (.reg .b)
  | orA_imm (nn : Byte) : Logic8 (.orA_imm nn) .or (.reg .a) (.imm nn)
  | orA_atBRll (ll : Byte) : Logic8 (.orA_atBRll ll) .or (.reg .a) (.mem (.atBRll ll))
  | orA_athhll (hhll : Word) : Logic8 (.orA_athhll hhll) .or (.reg .a) (.mem (.athhll hhll))
  | orA_atHL : Logic8 .orA_atHL .or (.reg .a) (.mem .atHL)
  | orA_atIX : Logic8 .orA_atIX .or (.reg .a) (.mem .atIX)
  | orA_atIY : Logic8 .orA_atIY .or (.reg .a) (.mem .atIY)
  | orA_atIXdd (dd : Byte) : Logic8 (.orA_atIXdd dd) .or (.reg .a) (.mem (.atIXdd dd))
  | orA_atIYdd (dd : Byte) : Logic8 (.orA_atIYdd dd) .or (.reg .a) (.mem (.atIYdd dd))
  | orA_atIXL : Logic8 .orA_atIXL .or (.reg .a) (.mem .atIXL)
  | orA_atIYL : Logic8 .orA_atIYL .or (.reg .a) (.mem .atIYL)
  | orB_imm (nn : Byte) : Logic8 (.orB_imm nn) .or (.reg .b) (.imm nn)
  | orL_imm (nn : Byte) : Logic8 (.orL_imm nn) .or (.reg .l) (.imm nn)
  | orH_imm (nn : Byte) : Logic8 (.orH_imm nn) .or (.reg .h) (.imm nn)
  | or_atBRll_imm (ll : Byte) (nn : Byte) : Logic8 (.or_atBRll_imm ll nn) .or (.mem (.atBRll ll)) (.imm nn)
  | or_atHL_A : Logic8 .or_atHL_A .or (.mem .atHL) (.reg .a)
  | or_atHL_imm (nn : Byte) : Logic8 (.or_atHL_imm nn) .or (.mem .atHL) (.imm nn)
  | or_atHL_atIX : Logic8 .or_atHL_atIX .or (.mem .atHL) (.mem .atIX)
  | or_atHL_atIY : Logic8 .or_atHL_atIY .or (.mem .atHL) (.mem .atIY)
  | xorA_A : Logic8 .xorA_A .xor (.reg .a) (.reg .a)
  | xorA_B : Logic8 .xorA_B .xor (.reg .a) (.reg .b)
  | xorA_imm (nn : Byte) : Logic8 (.xorA_imm nn) .xor (.reg .a) (.imm nn)
  | xorA_atBRll (ll : Byte) : Logic8 (.xorA_atBRll ll) .xor (.reg .a) (.mem (.atBRll ll))
  | xorA_athhll (hhll : Word) : Logic8 (.xorA_athhll hhll) .xor (.reg .a) (.mem (.athhll hhll))
  | xorA_atHL : Logic8 .xorA_atHL .xor (.reg .a) (.mem .atHL)
  | xorA_atIX : Logic8 .xorA_atIX .xor (.reg .a) (.mem .atIX)
  | xorA_atIY : Logic8 .xorA_atIY .xor (.reg .a) (.mem .atIY)
  | xorA_atIXdd (dd : Byte) : Logic8 (.xorA_atIXdd dd) .xor (.reg .a) (.mem (.atIXdd dd))
  | xorA_atIYdd (dd : Byte) : Logic8 (.xorA_atIYdd dd) .xor (.reg .a) (.mem (.atIYdd dd))
  | xorA_atIXL : Logic8 .xorA_atIXL .xor (.reg .a) (.mem .atIXL)
  | xorA_atIYL : Logic8 .xorA_atIYL .xor (.reg .a) (.mem .atIYL)
  | xorB_imm (nn : Byte) : Logic8 (.xorB_imm nn) .xor (.reg .b) (.imm nn)
  | xorL_imm (nn : Byte) : Logic8 (.xorL_imm nn) .xor (.reg .l) (.imm nn)
  | xorH_imm (nn : Byte) : Logic8 (.xorH_imm nn) .xor (.reg .h) (.imm nn)
  | xor_atBRll_imm (ll : Byte) (nn : Byte) : Logic8 (.xor_atBRll_imm ll nn) .xor (.mem (.atBRll ll)) (.imm nn)
  | xor_atHL_A : Logic8 .xor_atHL_A .xor (.mem .atHL) (.reg .a)
  | xor_atHL_imm (nn : Byte) : Logic8 (.xor_atHL_imm nn) .xor (.mem .atHL) (.imm nn)
  | xor_atHL_atIX : Logic8 .xor_atHL_atIX .xor (.mem .atHL) (.mem .atIX)
  | xor_atHL_atIY : Logic8 .xor_atHL_atIY .xor (.mem .atHL) (.mem .atIY)

/-- BIT: the two operands (43_alu8_logic.md R388 to R392). -/
inductive BitTest : Instr → Operand8 → Operand8 → Prop where
  | bitA_B : BitTest .bitA_B (.reg .a) (.reg .b)
  | bitA_imm (nn : Byte) : BitTest (.bitA_imm nn) (.reg .a) (.imm nn)
  | bitB_imm (nn : Byte) : BitTest (.bitB_imm nn) (.reg .b) (.imm nn)
  | bit_atBRll_imm (ll : Byte) (nn : Byte) : BitTest (.bit_atBRll_imm ll nn) (.mem (.atBRll ll)) (.imm nn)
  | bit_atHL_imm (nn : Byte) : BitTest (.bit_atHL_imm nn) (.mem .atHL) (.imm nn)

/-- CPL: operand (43_alu8_logic.md R393 to R395). -/
inductive Complement8 : Instr → Operand8 → Prop where
  | cplA : Complement8 .cplA (.reg .a)
  | cplB : Complement8 .cplB (.reg .b)
  | cpl_atBRll (ll : Byte) : Complement8 (.cpl_atBRll ll) (.mem (.atBRll ll))
  | cpl_atHL : Complement8 .cpl_atHL (.mem .atHL)

/-- ADD, ADC, SUB, SBC on 16 bits: operation, destination, source (44_alu16.md R410 to R444). -/
inductive Arithmetic16 : Instr → ArithOp → Reg16 → Operand16 → Prop where
  | addBA_BA : Arithmetic16 .addBA_BA .add .ba (.reg .ba)
  | addBA_HL : Arithmetic16 .addBA_HL .add .ba (.reg .hl)
  | addBA_IX : Arithmetic16 .addBA_IX .add .ba (.reg .ix)
  | addBA_IY : Arithmetic16 .addBA_IY .add .ba (.reg .iy)
  | addHL_BA : Arithmetic16 .addHL_BA .add .hl (.reg .ba)
  | addHL_HL : Arithmetic16 .addHL_HL .add .hl (.reg .hl)
  | addHL_IX : Arithmetic16 .addHL_IX .add .hl (.reg .ix)
  | addHL_IY : Arithmetic16 .addHL_IY .add .hl (.reg .iy)
  | adcBA_BA : Arithmetic16 .adcBA_BA .adc .ba (.reg .ba)
  | adcBA_HL : Arithmetic16 .adcBA_HL .adc .ba (.reg .hl)
  | adcBA_IX : Arithmetic16 .adcBA_IX .adc .ba (.reg .ix)
  | adcBA_IY : Arithmetic16 .adcBA_IY .adc .ba (.reg .iy)
  | adcHL_BA : Arithmetic16 .adcHL_BA .adc .hl (.reg .ba)
  | adcHL_HL : Arithmetic16 .adcHL_HL .adc .hl (.reg .hl)
  | adcHL_IX : Arithmetic16 .adcHL_IX .adc .hl (.reg .ix)
  | adcHL_IY : Arithmetic16 .adcHL_IY .adc .hl (.reg .iy)
  | subBA_BA : Arithmetic16 .subBA_BA .sub .ba (.reg .ba)
  | subBA_HL : Arithmetic16 .subBA_HL .sub .ba (.reg .hl)
  | subBA_IX : Arithmetic16 .subBA_IX .sub .ba (.reg .ix)
  | subBA_IY : Arithmetic16 .subBA_IY .sub .ba (.reg .iy)
  | subHL_BA : Arithmetic16 .subHL_BA .sub .hl (.reg .ba)
  | subHL_HL : Arithmetic16 .subHL_HL .sub .hl (.reg .hl)
  | subHL_IX : Arithmetic16 .subHL_IX .sub .hl (.reg .ix)
  | subHL_IY : Arithmetic16 .subHL_IY .sub .hl (.reg .iy)
  | sbcBA_BA : Arithmetic16 .sbcBA_BA .sbc .ba (.reg .ba)
  | sbcBA_HL : Arithmetic16 .sbcBA_HL .sbc .ba (.reg .hl)
  | sbcBA_IX : Arithmetic16 .sbcBA_IX .sbc .ba (.reg .ix)
  | sbcBA_IY : Arithmetic16 .sbcBA_IY .sbc .ba (.reg .iy)
  | sbcHL_BA : Arithmetic16 .sbcHL_BA .sbc .hl (.reg .ba)
  | sbcHL_HL : Arithmetic16 .sbcHL_HL .sbc .hl (.reg .hl)
  | sbcHL_IX : Arithmetic16 .sbcHL_IX .sbc .hl (.reg .ix)
  | sbcHL_IY : Arithmetic16 .sbcHL_IY .sbc .hl (.reg .iy)
  | addIX_BA : Arithmetic16 .addIX_BA .add .ix (.reg .ba)
  | addIX_HL : Arithmetic16 .addIX_HL .add .ix (.reg .hl)
  | addIY_BA : Arithmetic16 .addIY_BA .add .iy (.reg .ba)
  | addIY_HL : Arithmetic16 .addIY_HL .add .iy (.reg .hl)
  | addSP_BA : Arithmetic16 .addSP_BA .add .sp (.reg .ba)
  | addSP_HL : Arithmetic16 .addSP_HL .add .sp (.reg .hl)
  | subIX_BA : Arithmetic16 .subIX_BA .sub .ix (.reg .ba)
  | subIX_HL : Arithmetic16 .subIX_HL .sub .ix (.reg .hl)
  | subIY_BA : Arithmetic16 .subIY_BA .sub .iy (.reg .ba)
  | subIY_HL : Arithmetic16 .subIY_HL .sub .iy (.reg .hl)
  | subSP_BA : Arithmetic16 .subSP_BA .sub .sp (.reg .ba)
  | subSP_HL : Arithmetic16 .subSP_HL .sub .sp (.reg .hl)
  | addBA_imm (mmnn : Word) : Arithmetic16 (.addBA_imm mmnn) .add .ba (.imm mmnn)
  | addHL_imm (mmnn : Word) : Arithmetic16 (.addHL_imm mmnn) .add .hl (.imm mmnn)
  | addIX_imm (mmnn : Word) : Arithmetic16 (.addIX_imm mmnn) .add .ix (.imm mmnn)
  | addIY_imm (mmnn : Word) : Arithmetic16 (.addIY_imm mmnn) .add .iy (.imm mmnn)
  | subBA_imm (mmnn : Word) : Arithmetic16 (.subBA_imm mmnn) .sub .ba (.imm mmnn)
  | subHL_imm (mmnn : Word) : Arithmetic16 (.subHL_imm mmnn) .sub .hl (.imm mmnn)
  | subIX_imm (mmnn : Word) : Arithmetic16 (.subIX_imm mmnn) .sub .ix (.imm mmnn)
  | subIY_imm (mmnn : Word) : Arithmetic16 (.subIY_imm mmnn) .sub .iy (.imm mmnn)
  | adcBA_imm (mmnn : Word) : Arithmetic16 (.adcBA_imm mmnn) .adc .ba (.imm mmnn)
  | adcHL_imm (mmnn : Word) : Arithmetic16 (.adcHL_imm mmnn) .adc .hl (.imm mmnn)
  | sbcBA_imm (mmnn : Word) : Arithmetic16 (.sbcBA_imm mmnn) .sbc .ba (.imm mmnn)
  | sbcHL_imm (mmnn : Word) : Arithmetic16 (.sbcHL_imm mmnn) .sbc .hl (.imm mmnn)
  | addSP_imm (mmnn : Word) : Arithmetic16 (.addSP_imm mmnn) .add .sp (.imm mmnn)
  | subSP_imm (mmnn : Word) : Arithmetic16 (.subSP_imm mmnn) .sub .sp (.imm mmnn)

/-- CP on 16 bits: the two operands (44_alu16.md R418 to R445). -/
inductive Compare16 : Instr → Reg16 → Operand16 → Prop where
  | cpBA_BA : Compare16 .cpBA_BA .ba (.reg .ba)
  | cpBA_HL : Compare16 .cpBA_HL .ba (.reg .hl)
  | cpBA_IX : Compare16 .cpBA_IX .ba (.reg .ix)
  | cpBA_IY : Compare16 .cpBA_IY .ba (.reg .iy)
  | cpHL_BA : Compare16 .cpHL_BA .hl (.reg .ba)
  | cpHL_HL : Compare16 .cpHL_HL .hl (.reg .hl)
  | cpHL_IX : Compare16 .cpHL_IX .hl (.reg .ix)
  | cpHL_IY : Compare16 .cpHL_IY .hl (.reg .iy)
  | cpSP_BA : Compare16 .cpSP_BA .sp (.reg .ba)
  | cpSP_HL : Compare16 .cpSP_HL .sp (.reg .hl)
  | cpBA_imm (mmnn : Word) : Compare16 (.cpBA_imm mmnn) .ba (.imm mmnn)
  | cpHL_imm (mmnn : Word) : Compare16 (.cpHL_imm mmnn) .hl (.imm mmnn)
  | cpIX_imm (mmnn : Word) : Compare16 (.cpIX_imm mmnn) .ix (.imm mmnn)
  | cpIY_imm (mmnn : Word) : Compare16 (.cpIY_imm mmnn) .iy (.imm mmnn)
  | cpSP_imm (mmnn : Word) : Compare16 (.cpSP_imm mmnn) .sp (.imm mmnn)

/-- INC and DEC on 16 bits: register, and what is added modulo 2^16 (44_alu16.md R446 to R449). -/
inductive Count16 : Instr → Reg16 → Word → Prop where
  | incBA : Count16 .incBA .ba 0x0001#16
  | incHL : Count16 .incHL .hl 0x0001#16
  | incIX : Count16 .incIX .ix 0x0001#16
  | incIY : Count16 .incIY .iy 0x0001#16
  | incSP : Count16 .incSP .sp 0x0001#16
  | decBA : Count16 .decBA .ba 0xFFFF#16
  | decHL : Count16 .decHL .hl 0xFFFF#16
  | decIX : Count16 .decIX .ix 0xFFFF#16
  | decIY : Count16 .decIY .iy 0xFFFF#16
  | decSP : Count16 .decSP .sp 0xFFFF#16

/-- The shifts and rotates: kind, operand (46_rotate_shift.md R470 to R493). -/
inductive Shift8 : Instr → ShiftKind → Operand8 → Prop where
  | rlA : Shift8 .rlA .rl (.reg .a)
  | rlB : Shift8 .rlB .rl (.reg .b)
  | rl_atBRll (ll : Byte) : Shift8 (.rl_atBRll ll) .rl (.mem (.atBRll ll))
  | rl_atHL : Shift8 .rl_atHL .rl (.mem .atHL)
  | rlcA : Shift8 .rlcA .rlc (.reg .a)
  | rlcB : Shift8 .rlcB .rlc (.reg .b)
  | rlc_atBRll (ll : Byte) : Shift8 (.rlc_atBRll ll) .rlc (.mem (.atBRll ll))
  | rlc_atHL : Shift8 .rlc_atHL .rlc (.mem .atHL)
  | rrA : Shift8 .rrA .rr (.reg .a)
  | rrB : Shift8 .rrB .rr (.reg .b)
  | rr_atBRll (ll : Byte) : Shift8 (.rr_atBRll ll) .rr (.mem (.atBRll ll))
  | rr_atHL : Shift8 .rr_atHL .rr (.mem .atHL)
  | rrcA : Shift8 .rrcA .rrc (.reg .a)
  | rrcB : Shift8 .rrcB .rrc (.reg .b)
  | rrc_atBRll (ll : Byte) : Shift8 (.rrc_atBRll ll) .rrc (.mem (.atBRll ll))
  | rrc_atHL : Shift8 .rrc_atHL .rrc (.mem .atHL)
  | slaA : Shift8 .slaA .sla (.reg .a)
  | slaB : Shift8 .slaB .sla (.reg .b)
  | sla_atBRll (ll : Byte) : Shift8 (.sla_atBRll ll) .sla (.mem (.atBRll ll))
  | sla_atHL : Shift8 .sla_atHL .sla (.mem .atHL)
  | sllA : Shift8 .sllA .sll (.reg .a)
  | sllB : Shift8 .sllB .sll (.reg .b)
  | sll_atBRll (ll : Byte) : Shift8 (.sll_atBRll ll) .sll (.mem (.atBRll ll))
  | sll_atHL : Shift8 .sll_atHL .sll (.mem .atHL)
  | sraA : Shift8 .sraA .sra (.reg .a)
  | sraB : Shift8 .sraB .sra (.reg .b)
  | sra_atBRll (ll : Byte) : Shift8 (.sra_atBRll ll) .sra (.mem (.atBRll ll))
  | sra_atHL : Shift8 .sra_atHL .sra (.mem .atHL)
  | srlA : Shift8 .srlA .srl (.reg .a)
  | srlB : Shift8 .srlB .srl (.reg .b)
  | srl_atBRll (ll : Byte) : Shift8 (.srl_atBRll ll) .srl (.mem (.atBRll ll))
  | srl_atHL : Shift8 .srl_atHL .srl (.mem .atHL)

/-- PUSH: the register bytes in the order they are pushed (47_stack.md R510 to R517). -/
inductive PushOf : Instr → List RegByte → Prop where
  | pushA : PushOf .pushA [.a]
  | pushB : PushOf .pushB [.b]
  | pushL : PushOf .pushL [.l]
  | pushH : PushOf .pushH [.h]
  | pushBA : PushOf .pushBA [.b, .a]
  | pushHL : PushOf .pushHL [.h, .l]
  | pushIX : PushOf .pushIX [.ixHigh, .ixLow]
  | pushIY : PushOf .pushIY [.iyHigh, .iyLow]
  | pushBR : PushOf .pushBR [.br]
  | pushEP : PushOf .pushEP [.ep]
  | pushIP : PushOf .pushIP [.xp, .yp]
  | pushSC : PushOf .pushSC [.sc]
  | pushALL : PushOf .pushALL [.b, .a, .h, .l, .ixHigh, .ixLow, .iyHigh, .iyLow, .br]
  | pushALE : PushOf .pushALE [.b, .a, .h, .l, .ixHigh, .ixLow, .iyHigh, .iyLow, .br, .ep, .xp, .yp]

/-- POP: the register bytes in the order they are popped (47_stack.md R518 to R525). -/
inductive PopOf : Instr → List RegByte → Prop where
  | popA : PopOf .popA [.a]
  | popB : PopOf .popB [.b]
  | popL : PopOf .popL [.l]
  | popH : PopOf .popH [.h]
  | popBA : PopOf .popBA [.a, .b]
  | popHL : PopOf .popHL [.l, .h]
  | popIX : PopOf .popIX [.ixLow, .ixHigh]
  | popIY : PopOf .popIY [.iyLow, .iyHigh]
  | popBR : PopOf .popBR [.br]
  | popEP : PopOf .popEP [.ep]
  | popIP : PopOf .popIP [.yp, .xp]
  | popSC : PopOf .popSC [.sc]
  | popALL : PopOf .popALL [.br, .iyLow, .iyHigh, .ixLow, .ixHigh, .l, .h, .a, .b]
  | popALE : PopOf .popALE [.yp, .xp, .ep, .br, .iyLow, .iyHigh, .ixLow, .ixHigh, .l, .h, .a, .b]

/-- JRS and JRL: condition if any, signed displacement (48_branch.md R544 to R548). -/
inductive RelativeJump : Instr → Option Condition → Word → Prop where
  | jrs (rr : Byte) : RelativeJump (.jrs rr) none (signExtend8 rr)
  | jrsC (rr : Byte) : RelativeJump (.jrsC rr) (some .c) (signExtend8 rr)
  | jrsNC (rr : Byte) : RelativeJump (.jrsNC rr) (some .nc) (signExtend8 rr)
  | jrsZ (rr : Byte) : RelativeJump (.jrsZ rr) (some .z) (signExtend8 rr)
  | jrsNZ (rr : Byte) : RelativeJump (.jrsNZ rr) (some .nz) (signExtend8 rr)
  | jrsLT (rr : Byte) : RelativeJump (.jrsLT rr) (some .lt) (signExtend8 rr)
  | jrsLE (rr : Byte) : RelativeJump (.jrsLE rr) (some .le) (signExtend8 rr)
  | jrsGT (rr : Byte) : RelativeJump (.jrsGT rr) (some .gt) (signExtend8 rr)
  | jrsGE (rr : Byte) : RelativeJump (.jrsGE rr) (some .ge) (signExtend8 rr)
  | jrsV (rr : Byte) : RelativeJump (.jrsV rr) (some .v) (signExtend8 rr)
  | jrsNV (rr : Byte) : RelativeJump (.jrsNV rr) (some .nv) (signExtend8 rr)
  | jrsP (rr : Byte) : RelativeJump (.jrsP rr) (some .p) (signExtend8 rr)
  | jrsM (rr : Byte) : RelativeJump (.jrsM rr) (some .m) (signExtend8 rr)
  | jrsF0 (rr : Byte) : RelativeJump (.jrsF0 rr) (some .f0) (signExtend8 rr)
  | jrsF1 (rr : Byte) : RelativeJump (.jrsF1 rr) (some .f1) (signExtend8 rr)
  | jrsF2 (rr : Byte) : RelativeJump (.jrsF2 rr) (some .f2) (signExtend8 rr)
  | jrsF3 (rr : Byte) : RelativeJump (.jrsF3 rr) (some .f3) (signExtend8 rr)
  | jrsNF0 (rr : Byte) : RelativeJump (.jrsNF0 rr) (some .nf0) (signExtend8 rr)
  | jrsNF1 (rr : Byte) : RelativeJump (.jrsNF1 rr) (some .nf1) (signExtend8 rr)
  | jrsNF2 (rr : Byte) : RelativeJump (.jrsNF2 rr) (some .nf2) (signExtend8 rr)
  | jrsNF3 (rr : Byte) : RelativeJump (.jrsNF3 rr) (some .nf3) (signExtend8 rr)
  | jrl (qqrr : Word) : RelativeJump (.jrl qqrr) none qqrr
  | jrlC (qqrr : Word) : RelativeJump (.jrlC qqrr) (some .c) qqrr
  | jrlNC (qqrr : Word) : RelativeJump (.jrlNC qqrr) (some .nc) qqrr
  | jrlZ (qqrr : Word) : RelativeJump (.jrlZ qqrr) (some .z) qqrr
  | jrlNZ (qqrr : Word) : RelativeJump (.jrlNZ qqrr) (some .nz) qqrr

/-- CARS and CARL: condition if any, signed displacement (48_branch.md R552 to R556). -/
inductive RelativeCall : Instr → Option Condition → Word → Prop where
  | cars (rr : Byte) : RelativeCall (.cars rr) none (signExtend8 rr)
  | carsC (rr : Byte) : RelativeCall (.carsC rr) (some .c) (signExtend8 rr)
  | carsNC (rr : Byte) : RelativeCall (.carsNC rr) (some .nc) (signExtend8 rr)
  | carsZ (rr : Byte) : RelativeCall (.carsZ rr) (some .z) (signExtend8 rr)
  | carsNZ (rr : Byte) : RelativeCall (.carsNZ rr) (some .nz) (signExtend8 rr)
  | carsLT (rr : Byte) : RelativeCall (.carsLT rr) (some .lt) (signExtend8 rr)
  | carsLE (rr : Byte) : RelativeCall (.carsLE rr) (some .le) (signExtend8 rr)
  | carsGT (rr : Byte) : RelativeCall (.carsGT rr) (some .gt) (signExtend8 rr)
  | carsGE (rr : Byte) : RelativeCall (.carsGE rr) (some .ge) (signExtend8 rr)
  | carsV (rr : Byte) : RelativeCall (.carsV rr) (some .v) (signExtend8 rr)
  | carsNV (rr : Byte) : RelativeCall (.carsNV rr) (some .nv) (signExtend8 rr)
  | carsP (rr : Byte) : RelativeCall (.carsP rr) (some .p) (signExtend8 rr)
  | carsM (rr : Byte) : RelativeCall (.carsM rr) (some .m) (signExtend8 rr)
  | carsF0 (rr : Byte) : RelativeCall (.carsF0 rr) (some .f0) (signExtend8 rr)
  | carsF1 (rr : Byte) : RelativeCall (.carsF1 rr) (some .f1) (signExtend8 rr)
  | carsF2 (rr : Byte) : RelativeCall (.carsF2 rr) (some .f2) (signExtend8 rr)
  | carsF3 (rr : Byte) : RelativeCall (.carsF3 rr) (some .f3) (signExtend8 rr)
  | carsNF0 (rr : Byte) : RelativeCall (.carsNF0 rr) (some .nf0) (signExtend8 rr)
  | carsNF1 (rr : Byte) : RelativeCall (.carsNF1 rr) (some .nf1) (signExtend8 rr)
  | carsNF2 (rr : Byte) : RelativeCall (.carsNF2 rr) (some .nf2) (signExtend8 rr)
  | carsNF3 (rr : Byte) : RelativeCall (.carsNF3 rr) (some .nf3) (signExtend8 rr)
  | carl (qqrr : Word) : RelativeCall (.carl qqrr) none qqrr
  | carlC (qqrr : Word) : RelativeCall (.carlC qqrr) (some .c) qqrr
  | carlNC (qqrr : Word) : RelativeCall (.carlNC qqrr) (some .nc) qqrr
  | carlZ (qqrr : Word) : RelativeCall (.carlZ qqrr) (some .z) qqrr
  | carlNZ (qqrr : Word) : RelativeCall (.carlNZ qqrr) (some .nz) qqrr

/-! ### Sets of instructions -/

/-- The branch instructions (48_branch.md R544 to R561). -/
def isBranch : Instr → Bool
  | .jrs _ | .jrsC _ | .jrsNC _ | .jrsZ _ | .jrsNZ _ | .jrsLT _ | .jrsLE _ | .jrsGT _ | .jrsGE _
  | .jrsV _ | .jrsNV _ | .jrsP _ | .jrsM _ | .jrsF0 _ | .jrsF1 _ | .jrsF2 _ | .jrsF3 _ | .jrsNF0 _
  | .jrsNF1 _ | .jrsNF2 _ | .jrsNF3 _ | .jrl _ | .jrlC _ | .jrlNC _ | .jrlZ _ | .jrlNZ _ | .djrNZ _
  | .jpHL | .jp_atkk _ | .cars _ | .carsC _ | .carsNC _ | .carsZ _ | .carsNZ _ | .carsLT _ | .carsLE _
  | .carsGT _ | .carsGE _ | .carsV _ | .carsNV _ | .carsP _ | .carsM _ | .carsF0 _ | .carsF1 _
  | .carsF2 _ | .carsF3 _ | .carsNF0 _ | .carsNF1 _ | .carsNF2 _ | .carsNF3 _ | .carl _ | .carlC _
  | .carlNC _ | .carlZ _ | .carlNZ _ | .call_athhll _ | .ret | .rete | .rets | .int_atkk _ => true
  | _ => false

/-- `InhibitSet` (60_exceptions.md R606). -/
def inInhibitSet : Instr → Bool
  | .ldSC_A | .ldNB_imm _ | .ldNB_A | .ldSC_imm _ | .andSC_imm _ | .orSC_imm _ | .xorSC_imm _ | .popSC
  | .rete => true
  | _ => false

/-- The seven instructions that write SC explicitly (10_state.md R18). -/
def writesWholeSC : Instr → Bool
  | .ldSC_A | .ldSC_imm _ | .andSC_imm _ | .orSC_imm _ | .xorSC_imm _ | .popSC | .rete => true
  | _ => false

/-- The instructions that write NB as a destination (10_state.md R28). -/
def writesNB : Instr → Bool
  | .ldNB_imm _ | .ldNB_A => true
  | _ => false

/-- The instructions that move SP: loads, arithmetic, stack, calls, returns, INT (10_state.md R16). DIV is not among them; its
exception moves SP. -/
def writesSP : Instr → Bool
  | .ldSP_BA | .ldSP_HL | .ldSP_IX | .ldSP_IY | .ldSP_imm _ | .ldSP_athhll _ | .exBA_SP
  | .addSP_BA | .addSP_HL | .subSP_BA | .subSP_HL | .addSP_imm _ | .subSP_imm _ | .incSP | .decSP
  | .pushA | .pushB | .pushL | .pushH | .pushBA | .pushHL | .pushIX | .pushIY | .pushBR | .pushEP
  | .pushIP | .pushSC | .pushALL | .pushALE | .popA | .popB | .popL | .popH | .popBA | .popHL | .popIX
  | .popIY | .popBR | .popEP | .popIP | .popSC | .popALL | .popALE | .cars _ | .carsC _ | .carsNC _
  | .carsZ _ | .carsNZ _ | .carsLT _ | .carsLE _ | .carsGT _ | .carsGE _ | .carsV _ | .carsNV _
  | .carsP _ | .carsM _ | .carsF0 _ | .carsF1 _ | .carsF2 _ | .carsF3 _ | .carsNF0 _ | .carsNF1 _
  | .carsNF2 _ | .carsNF3 _ | .carl _ | .carlC _ | .carlNC _ | .carlZ _ | .carlNZ _ | .call_athhll _
  | .ret | .rete | .rets | .int_atkk _ => true
  | _ => false

end Sys2Proof.Claims
end

