-- ==== Sys2Proof/Safety.lean ====
section
/-! DEFINITION. The terms that claims about the machine use: the invariant of memory, and what it means for a step to
be safe. -/

namespace Sys2Proof.Machine

/-- Memory is in its canonical form, and every listed address is in the physical address space of the CPU model
(20_memory.md R60). -/
def State.MemoryInv (s : State) : Prop :=
  Memory.wf s.mem = true ∧ ∀ c ∈ s.mem, c.1 < s.addressSpace

/-- A step is safe when the machine is not stuck: it answers a next state. The only ways to be stuck are an undefined
code and an instruction that the CPU model lacks (30_encoding.md R109, R110). -/
def StepSafe (s : State) : Prop := ∃ t, step s = .next t

/-- The states that some number of steps reaches. -/
inductive Reaches : State → State → Prop where
  | refl (s : State) : Reaches s s
  | tail {s t u : State} : Reaches s t → step t = .next u → Reaches s u

/-- A run from `s` that never gets stuck. -/
def RunSafe (s : State) : Prop := ∀ t, Reaches s t → StepSafe t

end Sys2Proof.Machine
end

