-- ==== Sys2Proof/Certificates/Slice0/Obligations.lean ====
section
/-! DEFINITION. The statements for the provers. Each says which rules of spec/ it formalises; OBLIGATIONS.json lists
them. The vocabulary of frames and families is in Forms.lean. -/

open Sys2Proof Sys2Proof.Machine Sys2Proof.Claims

/-! ### Encoding -/

/-- Decoding an encoded instruction, whatever follows it, gives the instruction back with its length
(30_encoding.md R101 to R108). -/
def Obligations.DecodeOfEncodeIsInstruction : Prop :=
  ∀ (i : Instr) (rest : List Byte), decode (encode i ++ rest) = .ok (i, (encode i).length)

/-- The bytes that decode to an instruction are its encoding: no two encodings mean one instruction, and no bit of an
opcode is ignored (30_encoding.md R105, R111). -/
def Obligations.DecodedBytesAreTheEncoding : Prop :=
  ∀ (bs : List Byte) (i : Instr) (n : Nat), decode bs = .ok (i, n) → bs.take n = encode i ∧ (encode i).length = n

/-- Four bytes fail to decode exactly when their opcode is one of the 158 undefined codes of 30_encoding.md R106 to
R108. -/
def Obligations.UndefinedCodesAreRejected : Prop :=
  ∀ b0 b1 b2 b3 : Byte, (∃ e, decode [b0, b1, b2, b3] = .error e) ↔
    (b0 = 0x7C#8 ∨ b0 = 0xFE#8) ∨
    (b0 = 0xCE#8 ∧ ((0x64#8 ≤ b1 ∧ b1 ≤ 0x67#8) ∨ (0x6C#8 ≤ b1 ∧ b1 ≤ 0x77#8) ∨ (0x7C#8 ≤ b1 ∧ b1 ≤ 0x7F#8) ∨
      (0xA9#8 ≤ b1 ∧ b1 ≤ 0xAD#8) ∨ b1 = 0xB3#8 ∨ b1 = 0xB7#8 ∨ b1 = 0xBB#8 ∨ (0xDA#8 ≤ b1 ∧ b1 ≤ 0xDF#8))) ∨
    (b0 = 0xCF#8 ∧ ((0x10#8 ≤ b1 ∧ b1 ≤ 0x17#8) ∨ (0x1C#8 ≤ b1 ∧ b1 ≤ 0x1F#8) ∨ (0x30#8 ≤ b1 ∧ b1 ≤ 0x37#8) ∨
      (0x3C#8 ≤ b1 ∧ b1 ≤ 0x3F#8) ∨ (0x46#8 ≤ b1 ∧ b1 ≤ 0x47#8) ∨ (0x4E#8 ≤ b1 ∧ b1 ≤ 0x5B#8) ∨
      (0x5E#8 ≤ b1 ∧ b1 ≤ 0x5F#8) ∨ (0x64#8 ≤ b1 ∧ b1 ≤ 0x67#8) ∨ b1 = 0x69#8 ∨ b1 = 0x6B#8 ∨ b1 = 0x6D#8 ∨
      b1 = 0x6F#8 ∨ (0x79#8 ≤ b1 ∧ b1 ≤ 0x7B#8) ∨ (0x7D#8 ≤ b1 ∧ b1 ≤ 0xAF#8) ∨ (0xBA#8 ≤ b1 ∧ b1 ≤ 0xBB#8) ∨
      (0xBE#8 ≤ b1 ∧ b1 ≤ 0xBF#8) ∨ (0xC8#8 ≤ b1 ∧ b1 ≤ 0xCF#8) ∨ (0xF6#8 ≤ b1 ∧ b1 ≤ 0xF7#8) ∨
      (0xFB#8 ≤ b1 ∧ b1 ≤ 0xFD#8) ∨ b1 = 0xFF#8))

/-- Words written out from the maps of 30_encoding.md R106 to R108, one or two per family, decode to the instruction
they stand for (operand order: R103). -/
def Obligations.WrittenOutWordsDecode : Prop :=
  decode [0x41#8] = .ok (.ldA_B, 1) ∧
  decode [0xCE#8, 0x40#8, 0xFB#8] = .ok (.ldA_atIXdd 0xFB#8, 3) ∧
  decode [0xDD#8, 0x6E#8, 0x3C#8] = .ok (.ld_atBRll_imm 0x6E#8 0x3C#8, 3) ∧
  decode [0xC4#8, 0x34#8, 0x12#8] = .ok (.ldBA_imm 0x1234#16, 3) ∧
  decode [0xCF#8, 0xF9#8] = .ok (.ldBA_PC, 2) ∧
  decode [0x02#8, 0x3C#8] = .ok (.addA_imm 0x3C#8, 2) ∧
  decode [0xCE#8, 0xD9#8] = .ok (.div, 2) ∧
  decode [0x9E#8, 0x30#8] = .ok (.xorSC_imm 0x30#8, 2) ∧
  decode [0xCF#8, 0x6A#8, 0x34#8, 0x12#8] = .ok (.subSP_imm 0x1234#16, 4) ∧
  decode [0xDE#8] = .ok (.pack, 1) ∧
  decode [0xCE#8, 0x8A#8, 0x6E#8] = .ok (.sra_atBRll 0x6E#8, 3) ∧
  decode [0xCF#8, 0xBD#8] = .ok (.popALE, 2) ∧
  decode [0xEE#8, 0x10#8, 0x02#8] = .ok (.jrlZ 0x0210#16, 3) ∧
  decode [0xFB#8, 0x6E#8, 0x12#8] = .ok (.call_athhll 0x126E#16, 3) ∧
  decode [0xCE#8, 0xAE#8] = .ok (.halt, 2)

/-! ### The step -/

/-- A step that reaches an instruction runs the decoded one: with no reset, the core running, and no interrupt to take
(none acceptable, or interrupts held off), the step is `exec` of what the bytes at PC decode to, in the sampled state
with PC past the instruction, interrupts no longer held off, and the last store behind; and where the bytes are an
undefined code the machine is stuck. The bytes are those of memory at PC, PC + 1, PC + 2, PC + 3, each translated by
Prog, unless the previous instruction's last store went to the first of them (60_exceptions.md R603,
30_encoding.md R105, R109, 10_state.md R15, 70_reset_and_hazards.md R671). The source gives an undefined code no
behaviour: that the machine is stuck on it is the spec's decision D4 (log 9). The exception for the first byte is the
spec's decision D22 (log 14). -/
def Obligations.StepRunsDecodedInstruction : Prop :=
  ∀ s u : State, u = s.sample → u.pins.reset = false → u.runState = .running →
    (u.inhibitInt = true ∨ u.pick = none) →
    (∀ i n, decode u.fetchBytes = .ok (i, n) →
      step s = exec i { u with
        pc := u.pc + BitVec.ofNat 16 n
        inhibitInt := false
        freeIdx := if u.prefetchUnsure then u.freeIdx + 1 else u.freeIdx
        lateStore := none }) ∧
    (∀ e, decode u.fetchBytes = .error e → step s = .fault (.undefinedCode e)) ∧
    (u.prefetchUnsure = false →
      u.fetchBytes = [u.readMem (u.progAddr u.pc), u.readMem (u.progAddr (u.pc + 1#16)),
        u.readMem (u.progAddr (u.pc + 2#16)), u.readMem (u.progAddr (u.pc + 3#16))])

/-- The inputs are taken once per step: after a step that does not stop, the levels are the next entry of the script and
the script is one shorter; a falling edge of NMI in that entry enters NMI at once or leaves it pending, unless reset is
present; where the script is empty the levels stand without reset and without an edge (60_exceptions.md R604, R605; the
script is the model's, log 6; one sample per step for every input, log 7). That an edge is latched until NMI is entered,
and that reset drops it, is the spec's decision D16 (log 22). -/
def Obligations.InputsTakenOncePerStep : Prop :=
  ∀ s t : State, step s = .next t →
    (∀ p rest, s.env = p :: rest → t.pins = p ∧ t.env = rest) ∧
    (s.env = [] → t.env = [] ∧ t.pins = { s.pins with reset := false, nmiEdge := false }) ∧
    (∀ p rest, s.env = p :: rest → p.nmiEdge = true → p.reset = false →
      t.nmiPending = true ∨
        (s.sample.pick = some .nmi ∧ (s.runState = .running → s.inhibitInt = false)))

/-- Memory stays in canonical form and inside the physical address space of the CPU model (20_memory.md R60, R63, R66),
whatever a step does. -/
def Obligations.MemoryInvariantKept : Prop :=
  ∀ s t : State, s.MemoryInv → step s = .next t → t.MemoryInv

/-- The memory invariant holds right after reset. -/
def Obligations.ResetHasMemoryInvariant : Prop := State.reset.MemoryInv

/-- The CPU model and the level of the MODE pin never change (00_scope.md R3, 92 D1). -/
def Obligations.ModelAndModeNeverChange : Prop :=
  ∀ s t : State, step s = .next t → t.model = s.model ∧ t.mode = s.mode

/-- An instruction that the CPU model has completes, from every state; one that it lacks stops by name
(30_encoding.md R110). -/
def Obligations.InstructionCompletesExactlyWhenAvailable : Prop :=
  ∀ (i : Instr) (s : State),
    (i.wellFormed s.model = true → ∃ t, exec i s = .next t) ∧
    (i.wellFormed s.model = false → exec i s = .fault (.absentOnModel s.model))

/-- From a state in which interrupts are not held off, exactly the nine instructions of `InhibitSet` hold them off
(60_exceptions.md R606). -/
def Obligations.OnlyInhibitSetHoldsInterruptsOff : Prop :=
  ∀ (i : Instr) (s t : State), s.inhibitInt = false → exec i s = .next t → t.inhibitInt = inInhibitSet i

/-- I1, I0, U and D are written only by the seven instructions of 10_state.md R18; all others, DIV with its exception
included, keep them (R18, R25; 60_exceptions.md R611). That INT, which enters like an exception, keeps I1 and I0 is the
spec's decision D28 (log 23). -/
def Obligations.ModeBitsWrittenOnlyBySCInstructions : Prop :=
  ∀ (i : Instr) (s t : State), writesWholeSC i = false → exec i s = .next t → KeepsModeBits s t

/-- CB is written only by branch instructions, NB only by those and by LD NB (10_state.md R28, R29); `exec` moves PC only
in branch instructions and in the exception of DIV by zero (R15); SP moves only in the instructions that name it or use
the stack, and in that exception (R16). That this exception keeps CB and NB is the spec's decision D9 (log 17). -/
def Obligations.BanksPCAndSPWrittenOnlyByTheirInstructions : Prop :=
  ∀ (i : Instr) (s t : State), exec i s = .next t →
    (isBranch i = false → t.cb = s.cb) ∧
    (isBranch i = false → writesNB i = false → t.nb = s.nb) ∧
    (isBranch i = false → ¬ (i = .div ∧ s.a = 0#8) → t.pc = s.pc) ∧
    (writesSP i = false → ¬ (i = .div ∧ s.a = 0#8) → t.sp = s.sp)

/-- In maximum mode NB = CB after every branch instruction, taken or not (48_branch.md R542, R543). -/
def Obligations.BanksAgreeAfterEveryBranch : Prop :=
  ∀ (i : Instr) (s t : State), isBranch i = true → s.maxMode = true → exec i s = .next t → t.nb = t.cb

/-- Every relative jump and call, DJR, JP, CALL and INT transfers the banks as 48_branch.md R542 says: taken, CB <- NB
and NB is kept; not taken, NB <- CB and CB is kept. On MODEL0/1 neither exists and the model's fields keep their values
(log 16). -/
def Obligations.BankTransferAtBranches : Prop :=
  ∀ s t : State,
    (∀ i c d, (RelativeJump i c d ∨ RelativeCall i c d) → exec i s = .next t →
      ((c.elim true s.holds = true → t.cb = (if s.hasBank then s.nb else s.cb) ∧ t.nb = s.nb) ∧
       (c.elim true s.holds = false → t.nb = (if s.hasBank then s.cb else s.nb) ∧ t.cb = s.cb))) ∧
    (∀ rr, exec (.djrNZ rr) s = .next t →
      ((s.b - 1#8 ≠ 0#8 → t.cb = (if s.hasBank then s.nb else s.cb) ∧ t.nb = s.nb) ∧
       (s.b - 1#8 = 0#8 → t.nb = (if s.hasBank then s.cb else s.nb) ∧ t.cb = s.cb))) ∧
    (∀ i, (i = .jpHL ∨ (∃ kk, i = .jp_atkk kk) ∨ (∃ w, i = .call_athhll w) ∨ ∃ kk, i = .int_atkk kk) →
      exec i s = .next t → t.cb = (if s.hasBank then s.nb else s.cb) ∧ t.nb = s.nb)

/-! ### Addresses -/

/-- The page and the offset of every memory operand, and the byte that it is (20_memory.md R68, with the address formed as
in R66). That a sum wraps in the page is the spec's decision D8 (log 18). -/
def Obligations.EffectiveAddressOfEveryOperand : Prop :=
  ∀ (s : State) (dd ll : Byte) (hhll : Word),
    (s.operandPage .atHL, s.operandOffset .atHL) = (s.ep, word16 s.h s.l) ∧
    (s.operandPage .atIX, s.operandOffset .atIX) = (s.xp, s.ix) ∧
    (s.operandPage .atIY, s.operandOffset .atIY) = (s.yp, s.iy) ∧
    (s.operandPage (.atIXdd dd), (s.operandOffset (.atIXdd dd)).toNat)
      = (s.xp, (((s.ix.toNat : Int) + dd.toInt) % 2 ^ 16).toNat) ∧
    (s.operandPage (.atIYdd dd), (s.operandOffset (.atIYdd dd)).toNat)
      = (s.yp, (((s.iy.toNat : Int) + dd.toInt) % 2 ^ 16).toNat) ∧
    (s.operandPage .atIXL, (s.operandOffset .atIXL).toNat)
      = (s.xp, (((s.ix.toNat : Int) + s.l.toInt) % 2 ^ 16).toNat) ∧
    (s.operandPage .atIYL, (s.operandOffset .atIYL).toNat)
      = (s.yp, (((s.iy.toNat : Int) + s.l.toInt) % 2 ^ 16).toNat) ∧
    (s.operandPage (.atSPdd dd), (s.operandOffset (.atSPdd dd)).toNat)
      = (s.pins.spp, (((s.sp.toNat : Int) + dd.toInt) % 2 ^ 16).toNat) ∧
    (s.operandPage (.atBRll ll), (s.operandOffset (.atBRll ll)).toNat) = (s.ep, 256 * s.br.toNat + ll.toNat) ∧
    (s.operandPage (.athhll hhll), s.operandOffset (.athhll hhll)) = (s.ep, hhll) ∧
    (∀ m, s.read8 (.mem m) = s.readMem (s.dataAddr (s.operandPage m) (s.operandOffset m))) ∧
    ∀ page offset, s.dataAddr page offset =
      (if s.hasBank then page.toNat <<< 16 ||| offset.toNat else offset.toNat)

/-- `Prog(pc)`, the physical address of a logical program address, with the worked examples (20_memory.md R63): bits 14 to
0 are those of PC; above them stand 0 in the common area and CB in the bank area; where there are no banks it is PC. -/
def Obligations.ProgramAddressFormation : Prop :=
  (∀ (s : State) (pc : Word), s.hasBank = true →
    s.progAddr pc = (if pc.getLsbD 15 = false then pc.toNat % 0x8000 else s.cb.toNat <<< 15 ||| pc.toNat % 0x8000) ∧
    (s.progAddr pc).testBit 23 = false) ∧
  (∀ (s : State) (pc : Word), s.hasBank = false → s.progAddr pc = pc.toNat) ∧
  (∀ s : State, s.hasBank = true → s.cb = 0x02#8 →
    s.progAddr 0x8765#16 = 0x010765 ∧ s.progAddr 0xABCD#16 = 0x012BCD ∧ s.progAddr 0x9020#16 = 0x011020) ∧
  (∀ (s : State) (pc : Word), s.hasBank = true → s.cb = 0x01#8 → s.progAddr pc = pc.toNat)

/-- Pairs are views (10_state.md R12): B is the high half of BA and H of HL, writing a pair writes both halves; where
there are banks, XP is the high and YP the low half of IP, the 16-bit value that PUSH IP puts on the stack and POP IP takes
from it (its high byte at the higher address). -/
def Obligations.PairsAreViews : Prop :=
  ∀ (s : State) (v : Word),
    (s.reg16 .ba).toNat = 256 * s.b.toNat + s.a.toNat ∧ (s.reg16 .hl).toNat = 256 * s.h.toNat + s.l.toNat ∧
    (s.setReg16 .ba v).b.toNat = v.toNat / 256 ∧ (s.setReg16 .ba v).a.toNat = v.toNat % 256 ∧
    (s.setReg16 .hl v).h.toNat = v.toNat / 256 ∧ (s.setReg16 .hl v).l.toNat = v.toNat % 256 ∧
    (s.setReg16 .ba v).reg16 .ba = v ∧ (s.setReg16 .hl v).reg16 .hl = v ∧
    (s.hasBank = true →
      (∃ t, exec .pushIP s = .next t ∧
        (word16 (t.readMem (belowSP s 1)) (t.readMem (belowSP s 2))).toNat = 256 * s.xp.toNat + s.yp.toNat) ∧
      ∃ u, exec .popIP s = .next u ∧
        256 * u.xp.toNat + u.yp.toNat = (word16 (stackByte s 1) (stackByte s 0)).toNat)

/-- 16-bit data accesses are little-endian, low byte first, and the second offset wraps in the page
(20_memory.md R71, R73). -/
def Obligations.SixteenBitAccessIsLittleEndian : Prop :=
  ∀ (s : State) (m : MemOperand) (v : Word),
    (s.read16 (.mem m)).toNat =
      (s.readMem (s.dataAddr (s.operandPage m) (s.operandOffset m))).toNat
        + 256 * (s.readMem (s.dataAddr (s.operandPage m) (s.operandOffset m + 1#16))).toNat ∧
    (s.write16 (.mem m) v).readMem (s.dataAddr (s.operandPage m) (s.operandOffset m)) = lowByte v ∧
    (s.write16 (.mem m) v).readMem (s.dataAddr (s.operandPage m) (s.operandOffset m + 1#16)) = highByte v ∧
    KeepsMem [s.dataAddr (s.operandPage m) (s.operandOffset m),
      s.dataAddr (s.operandPage m) (s.operandOffset m + 1#16)] s (s.write16 (.mem m) v)

/-! ### Transfers -/

/-- Every 8-bit load of a register completes from every state: the destination takes the source, nothing else changes
(40_transfer8.md R130 to R152, less the SC, NB and page register forms). -/
def Obligations.RegisterLoads8 : Prop :=
  ∀ (i : Instr) (r : Reg8) (x : Operand8) (s : State), RegisterLoad8 i r x →
    ∃ t, exec i s = .next t ∧ Writes8 (.reg r) (s.read8 x) [] s t ∧ KeepsControl s t

/-- Every 8-bit store completes from every state: the byte at the destination's address takes the source, nothing else
changes (40_transfer8.md R153 to R182). -/
def Obligations.MemoryLoads8 : Prop :=
  ∀ (i : Instr) (m : MemOperand) (x : Operand8) (s : State), MemoryLoad8 i m x →
    ∃ t, exec i s = .next t ∧ Writes8 (.mem m) (s.read8 x) [] s t ∧ KeepsControl s t

/-- Loads that name NB, EP, XP or YP complete on MODEL2/3; a load of NB holds interrupts off, the others do not
(40_transfer8.md R135 to R140; 60_exceptions.md R606, the spec's decision D12, log 20). -/
def Obligations.BankRegisterLoads : Prop :=
  ∀ (i : Instr) (r : Reg8) (x : Operand8) (s : State), BankRegisterLoad i r x → s.hasBank = true →
    ∃ t, exec i s = .next t ∧ Writes8 (.reg r) (s.read8 x) [] s t ∧ t.pc = s.pc ∧
      Control s.runState (decide (r = .nb) || s.inhibitInt) s t

/-- The instructions with SC as destination write all eight bits and hold interrupts off; nothing else changes
(40_transfer8.md R134, R143; 43_alu8_logic.md AND, OR, XOR SC,#nn; the hold: 60_exceptions.md R606, the spec's decision
D12, log 20). -/
def Obligations.SCDestinationsWriteWholeSC : Prop :=
  ∀ (s : State) (nn : Byte) (i : Instr) (v : Byte),
    (i, v) ∈ [(.ldSC_A, s.a), (.ldSC_imm nn, nn), (.andSC_imm nn, s.sc &&& nn), (.orSC_imm nn, s.sc ||| nn),
      (.xorSC_imm nn, s.sc ^^^ nn)] →
    ∃ t, exec i s = .next t ∧ t.sc = v ∧ KeepsRegs [.sc] s t ∧ KeepsMem [] s t ∧ t.pc = s.pc ∧
      Control s.runState true s t

/-- Every 16-bit load of a register completes from every state, the forms that read PC and SP included
(41_transfer16.md R210 to R225). -/
def Obligations.RegisterLoads16 : Prop :=
  ∀ (i : Instr) (r : Reg16) (x : Operand16) (s : State), RegisterLoad16 i r x →
    ∃ t, exec i s = .next t ∧ WritesReg16 r (s.read16 x) [] s t ∧ KeepsControl s t

/-- Every 16-bit store completes from every state: low byte at the operand's address, high byte at the next offset,
nothing else changes (41_transfer16.md R226 to R231). -/
def Obligations.MemoryLoads16 : Prop :=
  ∀ (i : Instr) (m : MemOperand) (r : Reg16) (s : State), MemoryLoad16 i m r →
    ∃ t, exec i s = .next t ∧ t.readMem (s.operandAddr m) = lowByte (s.reg16 r) ∧
      t.readMem (s.operandAddrHigh m) = highByte (s.reg16 r) ∧ KeepsRegs [] s t ∧
      KeepsMem [s.operandAddr m, s.operandAddrHigh m] s t ∧ KeepsControl s t

/-- EX A,B; EX A,[HL]; SWAP A; SWAP [HL]; EX BA with HL, IX, IY and SP complete from every state and change only their
operands; no flag changes (40_transfer8.md R183 to R186, 41_transfer16.md R232). -/
def Obligations.ExchangesAndSwapsComplete : Prop :=
  ∀ s : State,
    (∃ t, exec .exA_B s = .next t ∧ t.a = s.b ∧ t.b = s.a ∧ KeepsRegs [.a, .b] s t ∧ KeepsMem [] s t ∧
      KeepsControl s t) ∧
    (∃ t, exec .exA_atHL s = .next t ∧ t.a = s.readMem (s.operandAddr .atHL) ∧
      t.readMem (s.operandAddr .atHL) = s.a ∧ KeepsRegs [.a] s t ∧ KeepsMem [s.operandAddr .atHL] s t ∧
      KeepsControl s t) ∧
    (∃ t, exec .swapA s = .next t ∧ t.a.toNat = 16 * (s.a.toNat % 16) + s.a.toNat / 16 ∧ KeepsRegs [.a] s t ∧
      KeepsMem [] s t ∧ KeepsControl s t) ∧
    (∃ t, exec .swap_atHL s = .next t ∧
      (t.readMem (s.operandAddr .atHL)).toNat =
        16 * ((s.readMem (s.operandAddr .atHL)).toNat % 16) + (s.readMem (s.operandAddr .atHL)).toNat / 16 ∧
      KeepsRegs [] s t ∧ KeepsMem [s.operandAddr .atHL] s t ∧ KeepsControl s t) ∧
    ∀ i r, (i, r) ∈ [(.exBA_HL, .hl), (.exBA_IX, .ix), (.exBA_IY, .iy), (.exBA_SP, .sp)] →
      ∃ t, exec i s = .next t ∧ t.reg16 .ba = s.reg16 r ∧ t.reg16 r = s.reg16 .ba ∧
        KeepsRegs (.b :: .a :: bytesOf r) s t ∧ KeepsMem [] s t ∧ KeepsControl s t

/-! ### 8-bit arithmetic and logic -/

/-- Every 8-bit ADD, ADC, SUB, SBC completes from every state, in every mode that D and U select: the destination takes
the result of `Add8` or `Sub8`, N, V, C, Z its flags, nothing else changes (42_alu8_arith.md R250 to R293,
10_state.md R46). On digits above 9 the result, C and Z are free values (log 11). -/
def Obligations.Arithmetic8Completes : Prop :=
  ∀ (i : Instr) (op : ArithOp) (d x : Operand8) (s : State), Arithmetic8 i op d x →
    ∃ t, exec i s = .next t ∧ Writes8 d (s.arithResult8 op (s.read8 d) (s.read8 x)).res [.sc] s t ∧
      Flags (s.arithResult8 op (s.read8 d) (s.read8 x)).n (s.arithResult8 op (s.read8 d) (s.read8 x)).v
        (s.arithResult8 op (s.read8 d) (s.read8 x)).c (s.arithResult8 op (s.read8 d) (s.read8 x)).z s t ∧
      KeepsControl s t

/-- Every CP, on 8 and on 16 bits, completes from every state: a binary subtraction whatever D and U hold, of which only
N, V, C, Z are written (42_alu8_arith.md R294 to R309; 44_alu16.md R418, R419, R426, R435 to R438, R445). -/
def Obligations.ComparesComplete : Prop :=
  (∀ (i : Instr) (x y : Operand8) (s : State), Compare8 i x y →
    ∃ t, exec i s = .next t ∧
      Flags (s.read8 x - s.read8 y).msb
        (decide ((s.read8 x).toInt - (s.read8 y).toInt < -128 ∨ 127 < (s.read8 x).toInt - (s.read8 y).toInt))
        (decide ((s.read8 x).toNat < (s.read8 y).toNat)) (decide (s.read8 x = s.read8 y)) s t ∧
      KeepsRegs [.sc] s t ∧ KeepsMem [] s t ∧ KeepsControl s t) ∧
  (∀ (i : Instr) (r : Reg16) (x : Operand16) (s : State), Compare16 i r x →
    ∃ t, exec i s = .next t ∧
      Flags (s.reg16 r - s.read16 x).msb
        (decide ((s.reg16 r).toInt - (s.read16 x).toInt < -32768 ∨
          32767 < (s.reg16 r).toInt - (s.read16 x).toInt))
        (decide ((s.reg16 r).toNat < (s.read16 x).toNat)) (decide (s.reg16 r = s.read16 x)) s t ∧
      KeepsRegs [.sc] s t ∧ KeepsMem [] s t ∧ KeepsControl s t)

/-- Every INC and DEC, on 8 and on 16 bits, completes from every state: only the operand and Z change
(42_alu8_arith.md R310 to R317, 44_alu16.md R446 to R449, 10_state.md R50). -/
def Obligations.CountingCompletes : Prop :=
  (∀ (i : Instr) (d : Operand8) (delta : Byte) (s : State), Count8 i d delta →
    ∃ t, exec i s = .next t ∧ Writes8 d (s.read8 d + delta) [.sc] s t ∧
      Flags s.flagN s.flagV s.flagC (decide (s.read8 d + delta = 0#8)) s t ∧ KeepsControl s t) ∧
  (∀ (i : Instr) (r : Reg16) (delta : Word) (s : State), Count16 i r delta →
    ∃ t, exec i s = .next t ∧ WritesReg16 r (s.reg16 r + delta) [.sc] s t ∧
      Flags s.flagN s.flagV s.flagC (decide (s.reg16 r + delta = 0#16)) s t ∧ KeepsControl s t)

/-- NEG completes from every state: `Sub8(0, v, 0)` in the mode that D and U select; in binary mode the two's complement
(42_alu8_arith.md R318 to R320). -/
def Obligations.Negate8Completes : Prop :=
  ∀ (i : Instr) (d : Operand8) (s : State), Negate8 i d →
    ∃ t, exec i s = .next t ∧ Writes8 d (s.arithResult8 .sub 0#8 (s.read8 d)).res [.sc] s t ∧
      Flags (s.arithResult8 .sub 0#8 (s.read8 d)).n (s.arithResult8 .sub 0#8 (s.read8 d)).v
        (s.arithResult8 .sub 0#8 (s.read8 d)).c (s.arithResult8 .sub 0#8 (s.read8 d)).z s t ∧
      KeepsControl s t ∧
      (s.flagD = false → s.flagU = false → (s.arithResult8 .sub 0#8 (s.read8 d)).res = -(s.read8 d))

/-- AND, OR, XOR (destination other than SC), CPL and BIT complete from every state: N and Z from the result, V and C
kept; BIT stores nothing (43_alu8_logic.md R340 to R395, 10_state.md R47). -/
def Obligations.Logic8Completes : Prop :=
  (∀ (i : Instr) (op : LogicOp) (d x : Operand8) (s : State), Logic8 i op d x →
    ∃ t, exec i s = .next t ∧ Writes8 d (bitwise op (s.read8 d) (s.read8 x)) [.sc] s t ∧
      Flags (bitwise op (s.read8 d) (s.read8 x)).msb s.flagV s.flagC
        (decide (bitwise op (s.read8 d) (s.read8 x) = 0#8)) s t ∧
      KeepsControl s t) ∧
  (∀ (i : Instr) (d : Operand8) (s : State), Complement8 i d →
    ∃ t, exec i s = .next t ∧ Writes8 d (~~~ (s.read8 d)) [.sc] s t ∧
      Flags (!(s.read8 d).msb) s.flagV s.flagC (decide (s.read8 d = 0xFF#8)) s t ∧ KeepsControl s t) ∧
  (∀ (i : Instr) (x y : Operand8) (s : State), BitTest i x y →
    ∃ t, exec i s = .next t ∧
      Flags (s.read8 x &&& s.read8 y).msb s.flagV s.flagC (decide (s.read8 x &&& s.read8 y = 0#8)) s t ∧
      KeepsRegs [.sc] s t ∧ KeepsMem [] s t ∧ KeepsControl s t)

/-- Every shift and rotate completes from every state, with the result, the bit shifted out in C, and V as
46_rotate_shift.md R470 to R493 say: V is bit 7 xor bit 6 for SLA, 0 for SRA, and kept by the others. -/
def Obligations.Shift8Completes : Prop :=
  ∀ (i : Instr) (k : ShiftKind) (d : Operand8) (s : State), Shift8 i k d →
    ∃ t, exec i s = .next t ∧
      Writes8 d (BitVec.ofNat 8 (shifted k (s.read8 d) s.flagC).1) [.sc] s t ∧
      Flags (decide (128 ≤ (shifted k (s.read8 d) s.flagC).1)) (shiftedV k (s.read8 d) s.flagV)
        (shifted k (s.read8 d) s.flagC).2 (decide ((shifted k (s.read8 d) s.flagC).1 = 0)) s t ∧
      KeepsControl s t

/-- PACK, UPCK and SEP complete from every state and change no flag (45_aux.md R460 to R462). -/
def Obligations.PackUnpackAndSignExpand : Prop :=
  ∀ s : State,
    (∃ t, exec .pack s = .next t ∧ t.a.toNat = 16 * (s.b.toNat % 16) + s.a.toNat % 16 ∧ KeepsRegs [.a] s t ∧
      KeepsMem [] s t ∧ KeepsControl s t) ∧
    (∃ t, exec .upck s = .next t ∧ t.b.toNat = s.a.toNat / 16 ∧ t.a.toNat = s.a.toNat % 16 ∧
      KeepsRegs [.a, .b] s t ∧ KeepsMem [] s t ∧ KeepsControl s t) ∧
    (∃ t, exec .sep s = .next t ∧ (t.reg16 .ba).toInt = s.a.toInt ∧ t.a = s.a ∧ KeepsRegs [.b] s t ∧
      KeepsMem [] s t ∧ KeepsControl s t)

/-- MLT completes on MODEL1/3: HL is the unsigned product of L and A, N its bit 15, V = C = 0, Z iff it is 0
(42_alu8_arith.md R321). -/
def Obligations.MultiplyCompletes : Prop :=
  ∀ s : State, s.hasMulDiv = true →
    ∃ t, exec .mlt s = .next t ∧ (t.reg16 .hl).toNat = s.l.toNat * s.a.toNat ∧
      Flags (decide (0x8000 ≤ s.l.toNat * s.a.toNat)) false false (decide (s.l.toNat * s.a.toNat = 0)) s t ∧
      KeepsRegs [.h, .l, .sc] s t ∧ KeepsMem [] s t ∧ KeepsControl s t

/-- DIV completes on MODEL1/3 for a divisor other than 0: quotient in L and remainder in H when the quotient fits 8 bits;
else HL is kept and N V C Z = 1 1 0 0 (42_alu8_arith.md R322; the flags N, C, Z of the overflow case are the spec's
decision D11, log 13). -/
def Obligations.DivideCompletes : Prop :=
  ∀ s : State, s.hasMulDiv = true → s.a ≠ 0#8 →
    ∃ t, exec .div s = .next t ∧ KeepsMem [] s t ∧ KeepsControl s t ∧
      ((s.reg16 .hl).toNat / s.a.toNat ≤ 255 →
        t.l.toNat = (s.reg16 .hl).toNat / s.a.toNat ∧ t.h.toNat = (s.reg16 .hl).toNat % s.a.toNat ∧
        Flags (decide (128 ≤ (s.reg16 .hl).toNat / s.a.toNat)) false false
          (decide ((s.reg16 .hl).toNat / s.a.toNat = 0)) s t ∧ KeepsRegs [.h, .l, .sc] s t) ∧
      (255 < (s.reg16 .hl).toNat / s.a.toNat → Flags true true false false s t ∧ KeepsRegs [.sc] s t)

/-! ### 16-bit arithmetic -/

/-- Every 16-bit ADD, ADC, SUB, SBC completes from every state, whatever D and U hold: the destination takes the result
of `Add16` or `Sub16`, N, V, C, Z its flags (44_alu16.md R410 to R444, 10_state.md R48, R49). -/
def Obligations.Arithmetic16Completes : Prop :=
  ∀ (i : Instr) (op : ArithOp) (r : Reg16) (x : Operand16) (s : State), Arithmetic16 i op r x →
    ∃ t, exec i s = .next t ∧
      WritesReg16 r (binaryResult op (s.reg16 r) (s.read16 x) s.flagC).res [.sc] s t ∧
      Flags (binaryResult op (s.reg16 r) (s.read16 x) s.flagC).n (binaryResult op (s.reg16 r) (s.read16 x) s.flagC).v
        (binaryResult op (s.reg16 r) (s.read16 x) s.flagC).c (binaryResult op (s.reg16 r) (s.read16 x) s.flagC).z
        s t ∧
      KeepsControl s t

/-! ### The functions of the ALU -/

/-- `Add8bin` (10_state.md R40), with V in both of its forms and the source's examples. -/
def Obligations.BinaryAddition8 : Prop :=
  (∀ (x y : Byte) (cin : Bool),
    (addBin x y cin).res.toNat = (x.toNat + y.toNat + cin.toNat) % 256 ∧
    ((addBin x y cin).c = true ↔ 255 < x.toNat + y.toNat + cin.toNat) ∧
    ((addBin x y cin).z = true ↔ (addBin x y cin).res = 0#8) ∧
    (addBin x y cin).n = (addBin x y cin).res.getLsbD 7 ∧
    ((addBin x y cin).v = true ↔ ¬ (-128 ≤ x.toInt + y.toInt + cin.toNat ∧ x.toInt + y.toInt + cin.toNat ≤ 127)) ∧
    (addBin x y cin).v =
      ((x ^^^ (addBin x y cin).res) &&& (y ^^^ (addBin x y cin).res)).getLsbD 7) ∧
  addBin 0x5A#8 0xA5#8 false = ⟨0xFF#8, true, false, false, false⟩ ∧
  addBin 0x5B#8 0xA5#8 false = ⟨0x00#8, false, false, true, true⟩ ∧
  addBin 0x5B#8 0x25#8 false = ⟨0x80#8, true, true, false, false⟩

/-- `Sub8bin` (10_state.md R41), with V in both of its forms and the source's examples. -/
def Obligations.BinarySubtraction8 : Prop :=
  (∀ (x y : Byte) (bin : Bool),
    ((subBin x y bin).res.toNat : Int) = ((x.toNat : Int) - y.toNat - bin.toNat) % 256 ∧
    ((subBin x y bin).c = true ↔ (x.toNat : Int) - y.toNat - bin.toNat < 0) ∧
    ((subBin x y bin).z = true ↔ (subBin x y bin).res = 0#8) ∧
    (subBin x y bin).n = (subBin x y bin).res.getLsbD 7 ∧
    ((subBin x y bin).v = true ↔ ¬ (-128 ≤ x.toInt - y.toInt - bin.toNat ∧ x.toInt - y.toInt - bin.toNat ≤ 127)) ∧
    (subBin x y bin).v = ((x ^^^ y) &&& (x ^^^ (subBin x y bin).res)).getLsbD 7) ∧
  subBin 0x5A#8 0x5A#8 false = ⟨0x00#8, false, false, false, true⟩ ∧
  subBin 0x5A#8 0x5B#8 false = ⟨0xFF#8, true, false, true, false⟩ ∧
  subBin 0x5A#8 0xDA#8 false = ⟨0x80#8, true, true, true, false⟩

/-- `Add16` and `Sub16` (10_state.md R48, R49), with V in both of its forms and the source's examples. -/
def Obligations.AdditionAndSubtraction16 : Prop :=
  (∀ (x y : Word) (cin : Bool),
    (addBin x y cin).res.toNat = (x.toNat + y.toNat + cin.toNat) % 65536 ∧
    ((addBin x y cin).c = true ↔ 65535 < x.toNat + y.toNat + cin.toNat) ∧
    ((addBin x y cin).z = true ↔ (addBin x y cin).res = 0#16) ∧
    (addBin x y cin).n = (addBin x y cin).res.getLsbD 15 ∧
    ((addBin x y cin).v = true ↔
      ¬ (-32768 ≤ x.toInt + y.toInt + cin.toNat ∧ x.toInt + y.toInt + cin.toNat ≤ 32767)) ∧
    (addBin x y cin).v =
      ((x ^^^ (addBin x y cin).res) &&& (y ^^^ (addBin x y cin).res)).getLsbD 15) ∧
  (∀ (x y : Word) (bin : Bool),
    ((subBin x y bin).res.toNat : Int) = ((x.toNat : Int) - y.toNat - bin.toNat) % 65536 ∧
    ((subBin x y bin).c = true ↔ (x.toNat : Int) - y.toNat - bin.toNat < 0) ∧
    ((subBin x y bin).z = true ↔ (subBin x y bin).res = 0#16) ∧
    (subBin x y bin).n = (subBin x y bin).res.getLsbD 15 ∧
    ((subBin x y bin).v = true ↔
      ¬ (-32768 ≤ x.toInt - y.toInt - bin.toNat ∧ x.toInt - y.toInt - bin.toNat ≤ 32767)) ∧
    (subBin x y bin).v = ((x ^^^ y) &&& (x ^^^ (subBin x y bin).res)).getLsbD 15) ∧
  subBin 0x63C2#16 0x2125#16 false = ⟨0x429D#16, false, false, false, false⟩ ∧
  subBin 0xC261#16 0x5A32#16 false = ⟨0x682F#16, false, true, false, false⟩ ∧
  subBin 0x205C#16 0x7120#16 false = ⟨0xAF3C#16, true, false, true, false⟩

/-- In decimal mode, on operands that are two decimal digits each, an addition or subtraction is the two-digit decimal
one modulo 100 with C its carry or borrow, N = V = 0, Z iff the result is 0; the result is two decimal digits
(10_state.md R42, R43). -/
def Obligations.DecimalArithmetic : Prop :=
  ∀ (x y : Byte) (c : Bool) (idx : Nat), digitsValid .decimal x y = true →
    (∃ r, add8 .decimal idx x y c = r ∧ lowDigit r.res ≤ 9 ∧ highDigit r.res ≤ 9 ∧ r.n = false ∧ r.v = false ∧
      (r.z = true ↔ r.res = 0#8) ∧
      10 * highDigit r.res + lowDigit r.res =
        (10 * highDigit x + lowDigit x + (10 * highDigit y + lowDigit y) + c.toNat) % 100 ∧
      (r.c = true ↔ 100 ≤ 10 * highDigit x + lowDigit x + (10 * highDigit y + lowDigit y) + c.toNat)) ∧
    (∃ r, sub8 .decimal idx x y c = r ∧ lowDigit r.res ≤ 9 ∧ highDigit r.res ≤ 9 ∧ r.n = false ∧ r.v = false ∧
      (r.z = true ↔ r.res = 0#8) ∧
      10 * highDigit r.res + lowDigit r.res =
        (100 + (10 * highDigit x + lowDigit x) - (10 * highDigit y + lowDigit y) - c.toNat) % 100 ∧
      (r.c = true ↔ 10 * highDigit x + lowDigit x < 10 * highDigit y + lowDigit y + c.toNat))

/-- In unpack mode the low nibbles alone are added or subtracted and bits 7 to 4 of the result are 0, C is the carry or
borrow of bit 3, N bit 3, V the signed 4-bit overflow (10_state.md R44, R45); with D = 1 too, on decimal low digits, the
operation is the one-digit decimal one with N = V = 0 (R46; the spec's decision D35, log 12). -/
def Obligations.UnpackedArithmetic : Prop :=
  (∀ (x y : Byte) (c : Bool) (idx : Nat),
    (add8 .unpacked idx x y c).res.toNat = (x.toNat % 16 + y.toNat % 16 + c.toNat) % 16 ∧
    ((add8 .unpacked idx x y c).c = true ↔ 15 < x.toNat % 16 + y.toNat % 16 + c.toNat) ∧
    ((add8 .unpacked idx x y c).z = true ↔ (add8 .unpacked idx x y c).res = 0#8) ∧
    (add8 .unpacked idx x y c).n = (add8 .unpacked idx x y c).res.getLsbD 3 ∧
    (add8 .unpacked idx x y c).v =
      ((x ^^^ (add8 .unpacked idx x y c).res) &&& (y ^^^ (add8 .unpacked idx x y c).res)).getLsbD 3 ∧
    ((sub8 .unpacked idx x y c).res.toNat : Int) = ((x.toNat % 16 : Int) - y.toNat % 16 - c.toNat) % 16 ∧
    ((sub8 .unpacked idx x y c).c = true ↔ x.toNat % 16 < y.toNat % 16 + c.toNat) ∧
    ((sub8 .unpacked idx x y c).z = true ↔ (sub8 .unpacked idx x y c).res = 0#8) ∧
    (sub8 .unpacked idx x y c).n = (sub8 .unpacked idx x y c).res.getLsbD 3 ∧
    (sub8 .unpacked idx x y c).v =
      ((x ^^^ y) &&& (x ^^^ (sub8 .unpacked idx x y c).res)).getLsbD 3) ∧
  (∀ (x y : Byte) (c : Bool) (idx : Nat), digitsValid .unpackedDecimal x y = true →
    (∃ r, add8 .unpackedDecimal idx x y c = r ∧ r.n = false ∧ r.v = false ∧ (r.z = true ↔ r.res = 0#8) ∧
      r.res.toNat = (x.toNat % 16 + y.toNat % 16 + c.toNat) % 10 ∧
      (r.c = true ↔ 10 ≤ x.toNat % 16 + y.toNat % 16 + c.toNat)) ∧
    (∃ r, sub8 .unpackedDecimal idx x y c = r ∧ r.n = false ∧ r.v = false ∧ (r.z = true ↔ r.res = 0#8) ∧
      r.res.toNat = (10 + x.toNat % 16 - (y.toNat % 16 + c.toNat)) % 10 ∧
      (r.c = true ↔ x.toNat % 16 < y.toNat % 16 + c.toNat)))

/-- D and U select the arithmetic of ADD, ADC, SUB, SBC (10_state.md R46), and on a digit above 9 N = V = 0 still hold,
and with U = 1 bits 7 to 4 of the result are 0 (R26, R42; log 11); the result, C and Z are otherwise any value. -/
def Obligations.ModeDispatchAndNonDecimalDigits : Prop :=
  ∀ (s : State) (op : ArithOp) (x y : Byte),
    (s.flagD = false → s.flagU = false →
      s.arithResult8 op x y = binaryResult op x y s.flagC) ∧
    (s.flagD = true → s.flagU = false → s.aluMode = .decimal) ∧
    (s.flagD = false → s.flagU = true → s.aluMode = .unpacked) ∧
    (s.flagD = true → s.flagU = true → s.aluMode = .unpackedDecimal) ∧
    (s.flagD = true → (s.arithResult8 op x y).n = false ∧ (s.arithResult8 op x y).v = false) ∧
    (s.flagU = true → (s.arithResult8 op x y).res.toNat < 16)

/-- After a compare, LT, LE, GT, GE are the signed comparisons, C and NC the unsigned ones, Z and NZ equality, of the two
operands, for 8 and for 16 bits (48_branch.md R541). -/
def Obligations.ConditionsAfterCompare : Prop :=
  (∀ (i : Instr) (x y : Operand8) (s t : State), Compare8 i x y → exec i s = .next t →
    (t.holds .lt = true ↔ (s.read8 x).toInt < (s.read8 y).toInt) ∧
    (t.holds .le = true ↔ (s.read8 x).toInt ≤ (s.read8 y).toInt) ∧
    (t.holds .gt = true ↔ (s.read8 y).toInt < (s.read8 x).toInt) ∧
    (t.holds .ge = true ↔ (s.read8 y).toInt ≤ (s.read8 x).toInt) ∧
    (t.holds .c = true ↔ (s.read8 x).toNat < (s.read8 y).toNat) ∧
    (t.holds .nc = true ↔ (s.read8 y).toNat ≤ (s.read8 x).toNat) ∧
    (t.holds .z = true ↔ s.read8 x = s.read8 y) ∧ (t.holds .nz = true ↔ s.read8 x ≠ s.read8 y)) ∧
  (∀ (i : Instr) (r : Reg16) (y : Operand16) (s t : State), Compare16 i r y → exec i s = .next t →
    (t.holds .lt = true ↔ (s.reg16 r).toInt < (s.read16 y).toInt) ∧
    (t.holds .le = true ↔ (s.reg16 r).toInt ≤ (s.read16 y).toInt) ∧
    (t.holds .gt = true ↔ (s.read16 y).toInt < (s.reg16 r).toInt) ∧
    (t.holds .ge = true ↔ (s.read16 y).toInt ≤ (s.reg16 r).toInt) ∧
    (t.holds .c = true ↔ (s.reg16 r).toNat < (s.read16 y).toNat) ∧
    (t.holds .nc = true ↔ (s.read16 y).toNat ≤ (s.reg16 r).toNat) ∧
    (t.holds .z = true ↔ s.reg16 r = s.read16 y) ∧ (t.holds .nz = true ↔ s.reg16 r ≠ s.read16 y))

/-! ### The stack -/

/-- Every PUSH completes where it exists: the bytes go below SP in the order of 47_stack.md R510 to R517, in page SPP
(20_memory.md R75, R76), and nothing else changes. -/
def Obligations.PushesComplete : Prop :=
  ∀ (i : Instr) (l : List RegByte) (s : State), PushOf i l → i.wellFormed s.model = true →
    ∃ t, exec i s = .next t ∧ Pushed (l.map (regByte s)) s t ∧ KeepsRegs [.spHigh, .spLow] s t ∧ KeepsControl s t

/-- Every POP completes where it exists: the k-th byte popped is the k-th above SP, SP goes up by their number, memory
and every other register are kept; POP SC holds interrupts off (47_stack.md R518 to R525; 60_exceptions.md R606, the
spec's decision D12, log 20). -/
def Obligations.PopsComplete : Prop :=
  ∀ (i : Instr) (l : List RegByte) (s : State), PopOf i l → i.wellFormed s.model = true →
    ∃ t, exec i s = .next t ∧ t.sp = s.sp + BitVec.ofNat 16 l.length ∧
      (∀ k r, l[k]? = some r → regByte t r = stackByte s k) ∧ KeepsRegs (.spHigh :: .spLow :: l) s t ∧
      KeepsMem [] s t ∧ t.pc = s.pc ∧ Control s.runState (decide (i = .popSC) || s.inhibitInt) s t

/-- PUSH ALE and then POP ALE brings back every register and SP, on MODEL2/3; PUSH ALL and then POP ALL on every model
(47_stack.md R516, R517, R524, R525). -/
def Obligations.PushAllThenPopAllRestores : Prop :=
  ∀ (push pop : Instr) (s t : State),
    (push = .pushALL ∧ pop = .popALL) ∨ (push = .pushALE ∧ pop = .popALE) → exec push s = .next t →
    ∃ u, exec pop t = .next u ∧ KeepsRegs [] s u ∧ KeepsControl s u

/-! ### Branches -/

/-- JRS and JRL complete from every state: when the condition holds (always, where there is none), PC is the address of
the instruction's last byte plus the signed displacement modulo 2^16; else PC is the next instruction's address; only the
banks change besides (48_branch.md R540 to R548). -/
def Obligations.RelativeJumpsComplete : Prop :=
  ∀ (i : Instr) (c : Option Condition) (d : Word) (s : State), RelativeJump i c d →
    ∃ t, exec i s = .next t ∧ t.pc = (if c.elim true s.holds then s.pc - 1#16 + d else s.pc) ∧
      KeepsRegs [.nb, .cb] s t ∧ KeepsMem [] s t ∧ Control s.runState s.inhibitInt s t

/-- CARS and CARL complete from every state: taken, the return information is pushed and PC is the target; not taken,
nothing is pushed (48_branch.md R540, R543, R552 to R556). -/
def Obligations.RelativeCallsComplete : Prop :=
  ∀ (i : Instr) (c : Option Condition) (d : Word) (s : State), RelativeCall i c d →
    ∃ t, exec i s = .next t ∧ t.pc = (if c.elim true s.holds then s.pc - 1#16 + d else s.pc) ∧
      Pushed (if c.elim true s.holds then returnInfo s s.pc else []) s t ∧
      KeepsRegs [.nb, .cb, .spHigh, .spLow] s t ∧ Control s.runState s.inhibitInt s t

/-- DJR NZ completes from every state: B and Z, and the branch while B is not 0 (48_branch.md R549). That the target wraps
modulo 2^16 is the spec's decision D34 (log 18). -/
def Obligations.DecrementJumpCompletes : Prop :=
  ∀ (s : State) (rr : Byte),
    ∃ t, exec (.djrNZ rr) s = .next t ∧ t.b = s.b - 1#8 ∧
      t.pc = (if s.b - 1#8 ≠ 0#8 then s.pc - 1#16 + signExtend8 rr else s.pc) ∧
      Flags s.flagN s.flagV s.flagC (decide (s.b - 1#8 = 0#8)) s t ∧ KeepsRegs [.b, .sc, .nb, .cb] s t ∧
      KeepsMem [] s t ∧ Control s.runState s.inhibitInt s t

/-- JP HL, JP [kk] and CALL [hhll] complete from every state. JP [kk] reads its vector in page 0; CALL pushes the return
information first and then reads the pointer in page EP (48_branch.md R550, R551, R557; 20_memory.md R69). The spec's
decisions: CALL's order D20 (log 25), the high byte of the pointer at FFFFH from 0000H of the page D7 and that of the
vector FFH from 000100H D26 (both log 18). -/
def Obligations.IndirectJumpsAndCallComplete : Prop :=
  ∀ (s : State) (kk : Byte) (hhll : Word),
    (∃ t, exec .jpHL s = .next t ∧ t.pc = s.reg16 .hl ∧ KeepsRegs [.cb] s t ∧ KeepsMem [] s t ∧
      Control s.runState s.inhibitInt s t) ∧
    (∃ t, exec (.jp_atkk kk) s = .next t ∧ t.pc = word16 (s.readMem (kk.toNat + 1)) (s.readMem kk.toNat) ∧
      KeepsRegs [.cb] s t ∧ KeepsMem [] s t ∧ Control s.runState s.inhibitInt s t) ∧
    (∃ t, exec (.call_athhll hhll) s = .next t ∧ Pushed (returnInfo s s.pc) s t ∧
      t.pc = word16 (t.readMem (s.dataAddr s.ep (hhll + 1#16))) (t.readMem (s.dataAddr s.ep hhll)) ∧
      KeepsRegs [.cb, .spHigh, .spLow] s t ∧ Control s.runState s.inhibitInt s t)

/-- RET, RETS and RETE complete from every state: PC from the stack, low byte first (RETS adds 2; RETE takes SC before
it and holds interrupts off), and in maximum mode CB and NB from the byte above (48_branch.md R543, R558 to R560). The
spec's decisions: RETS adds modulo 2^16 D21 (log 18), CB and NB kept outside maximum mode D33 (log 19), the hold after
RETE D12 (log 20). -/
def Obligations.ReturnsComplete : Prop :=
  ∀ (s : State) (i : Instr) (k : Nat) (skip : Word) (hold : Bool),
    (i, k, skip, hold) ∈ [(.ret, 0, 0#16, s.inhibitInt), (.rets, 0, 2#16, s.inhibitInt), (.rete, 1, 0#16, true)] →
    ∃ t, exec i s = .next t ∧ t.pc = word16 (stackByte s (k + 1)) (stackByte s k) + skip ∧
      t.sp = s.sp + BitVec.ofNat 16 (k + 2 + s.maxMode.toNat) ∧
      (s.maxMode = true → t.cb = stackByte s (k + 2) ∧ t.nb = stackByte s (k + 2)) ∧
      (s.maxMode = false → t.cb = s.cb ∧ t.nb = s.nb) ∧
      t.sc = (if k = 1 then stackByte s 0 else s.sc) ∧ KeepsRegs [.sc, .nb, .cb, .spHigh, .spLow] s t ∧
      KeepsMem [] s t ∧ Control s.runState hold s t

/-- INT [kk] completes from every state: the return information and SC are pushed, PC is the vector at 0000kkH (read
after the pushes), SC with its I1 and I0 is kept (48_branch.md R561). The spec's decisions: I1 and I0 kept D28 (log 23), the
high byte of the vector FFH from 000100H D26 (log 18), accesses in the order of the pseudocode D6 (log 25). -/
def Obligations.SoftwareInterruptCompletes : Prop :=
  ∀ (s : State) (kk : Byte),
    ∃ t, exec (.int_atkk kk) s = .next t ∧ Pushed (returnInfo s s.pc ++ [s.sc]) s t ∧
      t.pc = word16 (t.readMem (kk.toNat + 1)) (t.readMem kk.toNat) ∧ KeepsRegs [.cb, .spHigh, .spLow] s t ∧
      Control s.runState s.inhibitInt s t

/-- NOP changes nothing; HALT and SLP change the run state alone (49_system.md R580 to R582). -/
def Obligations.NopHaltSlpComplete : Prop :=
  ∀ (s : State) (i : Instr) (run : RunState),
    (i, run) ∈ [(.nop, s.runState), (.halt, .halted), (.slp, .sleeping)] →
    ∃ t, exec i s = .next t ∧ KeepsRegs [] s t ∧ KeepsMem [] s t ∧ t.pc = s.pc ∧ Control run s.inhibitInt s t

/-! ### Exceptions, interrupts, reset -/

/-- DIV with A = 00H takes the zero-division exception in the same step: vector 02H, return address the instruction
after the DIV, the SC pushed shows N V C Z = 1 1 0 0, I1 and I0 are kept, HL and A too (42_alu8_arith.md R322,
60_exceptions.md R611). The spec's decisions: the flags pushed, HL and A kept D10 (log 13), NB and CB kept D9 (log 17),
the vector read after the pushes D6 (log 25), the entry as part of the DIV's step D29, D31 (log 24). -/
def Obligations.DivideByZeroEntersException : Prop :=
  ∀ s : State, s.hasMulDiv = true → s.a = 0#8 →
    ∃ t, exec .div s = .next t ∧
      EntersException 0x02#8 s.pc none (s.sc &&& 0xF0#8 ||| 0x0C#8) s.nmiPending s t

/-- At a boundary where no reset is present and an interrupt is picked, and which is not one after an instruction that
holds interrupts off, the step enters that interrupt: NMI through 04H clearing its request, an IRQ through the vector
address the peripheral supplies, return address PC, I1 I0 set to the level accepted (60_exceptions.md R603, R612, R613,
R620). The spec's decisions: NB and CB kept D9 (log 17), the vector read after the pushes D6 (log 25), the high byte of the
vector FFH from 000100H D26 (log 18), any vector address taken D14 (log 26), which instructions hold off D12 (log 20), out
of HALT and SLEEP with the address after HALT or SLP D13, D24 (log 21). -/
def Obligations.StepEntersInterrupt : Prop :=
  ∀ (s u : State) (lvl : IntLevel), u = s.sample → u.pins.reset = false → u.pick = some lvl →
    (u.runState = .running → u.inhibitInt = false) →
    ∃ t, step s = .next t ∧
      (match lvl with
        | .nmi => EntersException 0x04#8 u.pc (some 0b11#2) u.sc false u t
        | .irq3 => EntersException u.pins.irqVector u.pc (some 0b11#2) u.sc u.nmiPending u t
        | .irq2 => EntersException u.pins.irqVector u.pc (some 0b10#2) u.sc u.nmiPending u t
        | .irq1 => EntersException u.pins.irqVector u.pc (some 0b01#2) u.sc u.nmiPending u t)

/-- Which interrupts can be accepted under each mask level and under IMASK (60_exceptions.md R602), and that the one
picked is the acceptable one of highest level (R603). -/
def Obligations.AcceptedInterruptIsHighestAboveMask : Prop :=
  ∀ s : State,
    (s.acceptable .nmi = true ↔ s.nmiPending = true ∧ s.pins.imask = false) ∧
    (s.acceptable .irq3 = true ↔
      s.pins.irq3 = true ∧ s.pins.imask = false ∧ ¬ (s.sc.getLsbD 7 = true ∧ s.sc.getLsbD 6 = true)) ∧
    (s.acceptable .irq2 = true ↔ s.pins.irq2 = true ∧ s.pins.imask = false ∧ s.sc.getLsbD 7 = false) ∧
    (s.acceptable .irq1 = true ↔
      s.pins.irq1 = true ∧ s.pins.imask = false ∧ s.sc.getLsbD 7 = false ∧ s.sc.getLsbD 6 = false) ∧
    (s.pick = none ↔ ∀ lvl, s.acceptable lvl = false) ∧
    (∀ lvl, s.pick = some lvl ↔
      s.acceptable lvl = true ∧ ∀ other, s.acceptable other = true → priority other ≤ priority lvl)

/-- In HALT or SLEEP, with no reset and no acceptable interrupt, a step changes nothing but the sampled inputs
(60_exceptions.md R603, R632). That a masked request does not end the standby state is the spec's decision D13 (log 21). -/
def Obligations.StandbyWaits : Prop :=
  ∀ s u : State, u = s.sample → u.pins.reset = false → u.runState ≠ .running → u.pick = none → step s = .next u

/-- RETE right after the entry of an exception, whatever its vector and level, brings back PC, SC, SP and the banks of the
interrupted program, and every other register; interrupts stay held off for one more instruction (60_exceptions.md R620,
R621; 48_branch.md R559). Outside maximum mode CB is not stacked and is kept. The spec's decisions: the entry keeps NB and
CB D9 (log 17), RETE keeps them outside maximum mode D33 (log 19), the hold after RETE D12 (log 20). -/
def Obligations.EntryThenRETEResumes : Prop :=
  ∀ (s : State) (v : Byte) (ret : Word) (lvl : Option IntLevel),
    ∃ u, exec .rete (s.exceptionEntry v ret lvl) = .next u ∧ u.pc = ret ∧ u.sc = s.sc ∧ u.sp = s.sp ∧
      u.cb = s.cb ∧ u.nb = (if s.maxMode then s.cb else s.nb) ∧ KeepsRegs [.nb] s u ∧ u.inhibitInt = true ∧
      u.runState = .running

/-- At a boundary where reset is present the step runs the reset sequence (70_reset_and_hazards.md R660): SC = C0H, on
MODEL2/3 NB = CB = 01H and EP = XP = YP = 00H, PC from the vector at 000000H, running, nothing held off or pending,
memory unchanged. Nothing is said of A, B, H, L, IX, IY, SP, BR: they are free values (log 2). That InhibitInt and
NmiPending are false is the spec's decision D16 (log 22); that each step under reset is one whole sequence is the model's
reading (log 8). -/
def Obligations.StepResets : Prop :=
  ∀ s u : State, u = s.sample → u.pins.reset = true →
    ∃ t, step s = .next t ∧ t.sc = 0xC0#8 ∧
      (s.hasBank = true → t.nb = 0x01#8 ∧ t.cb = 0x01#8 ∧ t.ep = 0x00#8 ∧ t.xp = 0x00#8 ∧ t.yp = 0x00#8) ∧
      t.pc = word16 (s.readMem 1) (s.readMem 0) ∧ t.runState = .running ∧ t.inhibitInt = false ∧
      t.nmiPending = false ∧ t.mem = s.mem

/-- The values that 10_state.md R55 states for reset stand in `State.reset`, with PC the vector of its memory, of which
log 3 tells; that InhibitInt and NmiPending are false is marked there as the spec's decision D16 (log 22). -/
def Obligations.ResetStateValues : Prop :=
  State.reset.sc = 0xC0#8 ∧ State.reset.nb = 0x01#8 ∧ State.reset.cb = 0x01#8 ∧ State.reset.ep = 0x00#8 ∧
    State.reset.xp = 0x00#8 ∧ State.reset.yp = 0x00#8 ∧ State.reset.runState = .running ∧
    State.reset.inhibitInt = false ∧ State.reset.nmiPending = false ∧ State.reset.pc = State.reset.vector 0x00#8
end

