-- ==== Sys2Proof/Laws/State.lean ====
section
/-! SUPPORT. One lemma per field per state update of the model, each true by unfolding the update, so that no proof
needs to unfold one. -/

namespace Sys2Proof.Laws

open Sys2Proof.Machine

variable (s : State)

@[simp] theorem writeMem_a (addr : Nat) (v : Byte) : (s.writeMem addr v).a = s.a := rfl
@[simp] theorem writeMem_b (addr : Nat) (v : Byte) : (s.writeMem addr v).b = s.b := rfl
@[simp] theorem writeMem_l (addr : Nat) (v : Byte) : (s.writeMem addr v).l = s.l := rfl
@[simp] theorem writeMem_h (addr : Nat) (v : Byte) : (s.writeMem addr v).h = s.h := rfl
@[simp] theorem writeMem_br (addr : Nat) (v : Byte) : (s.writeMem addr v).br = s.br := rfl
@[simp] theorem writeMem_sc (addr : Nat) (v : Byte) : (s.writeMem addr v).sc = s.sc := rfl
@[simp] theorem writeMem_nb (addr : Nat) (v : Byte) : (s.writeMem addr v).nb = s.nb := rfl
@[simp] theorem writeMem_cb (addr : Nat) (v : Byte) : (s.writeMem addr v).cb = s.cb := rfl
@[simp] theorem writeMem_ep (addr : Nat) (v : Byte) : (s.writeMem addr v).ep = s.ep := rfl
@[simp] theorem writeMem_xp (addr : Nat) (v : Byte) : (s.writeMem addr v).xp = s.xp := rfl
@[simp] theorem writeMem_yp (addr : Nat) (v : Byte) : (s.writeMem addr v).yp = s.yp := rfl
@[simp] theorem writeMem_ix (addr : Nat) (v : Byte) : (s.writeMem addr v).ix = s.ix := rfl
@[simp] theorem writeMem_iy (addr : Nat) (v : Byte) : (s.writeMem addr v).iy = s.iy := rfl
@[simp] theorem writeMem_sp (addr : Nat) (v : Byte) : (s.writeMem addr v).sp = s.sp := rfl
@[simp] theorem writeMem_pc (addr : Nat) (v : Byte) : (s.writeMem addr v).pc = s.pc := rfl
@[simp] theorem writeMem_runState (addr : Nat) (v : Byte) : (s.writeMem addr v).runState = s.runState := rfl
@[simp] theorem writeMem_inhibitInt (addr : Nat) (v : Byte) : (s.writeMem addr v).inhibitInt = s.inhibitInt := rfl
@[simp] theorem writeMem_nmiPending (addr : Nat) (v : Byte) : (s.writeMem addr v).nmiPending = s.nmiPending := rfl
@[simp] theorem writeMem_mem (addr : Nat) (v : Byte) : (s.writeMem addr v).mem = Memory.write s.mem addr v := rfl
@[simp] theorem writeMem_model (addr : Nat) (v : Byte) : (s.writeMem addr v).model = s.model := rfl
@[simp] theorem writeMem_mode (addr : Nat) (v : Byte) : (s.writeMem addr v).mode = s.mode := rfl
@[simp] theorem writeMem_pins (addr : Nat) (v : Byte) : (s.writeMem addr v).pins = s.pins := rfl
@[simp] theorem writeMem_env (addr : Nat) (v : Byte) : (s.writeMem addr v).env = s.env := rfl
@[simp] theorem writeMem_freeIdx (addr : Nat) (v : Byte) : (s.writeMem addr v).freeIdx = s.freeIdx := rfl
@[simp] theorem writeMem_lateStore (addr : Nat) (v : Byte) :
    (s.writeMem addr v).lateStore = some (addr, s.readMem addr) := rfl

@[simp] theorem writeFlags_a (f : FlagWrite) : (s.writeFlags f).a = s.a := rfl
@[simp] theorem writeFlags_b (f : FlagWrite) : (s.writeFlags f).b = s.b := rfl
@[simp] theorem writeFlags_l (f : FlagWrite) : (s.writeFlags f).l = s.l := rfl
@[simp] theorem writeFlags_h (f : FlagWrite) : (s.writeFlags f).h = s.h := rfl
@[simp] theorem writeFlags_br (f : FlagWrite) : (s.writeFlags f).br = s.br := rfl
@[simp] theorem writeFlags_sc (f : FlagWrite) : (s.writeFlags f).sc = flagsInto s.sc f := rfl
@[simp] theorem writeFlags_nb (f : FlagWrite) : (s.writeFlags f).nb = s.nb := rfl
@[simp] theorem writeFlags_cb (f : FlagWrite) : (s.writeFlags f).cb = s.cb := rfl
@[simp] theorem writeFlags_ep (f : FlagWrite) : (s.writeFlags f).ep = s.ep := rfl
@[simp] theorem writeFlags_xp (f : FlagWrite) : (s.writeFlags f).xp = s.xp := rfl
@[simp] theorem writeFlags_yp (f : FlagWrite) : (s.writeFlags f).yp = s.yp := rfl
@[simp] theorem writeFlags_ix (f : FlagWrite) : (s.writeFlags f).ix = s.ix := rfl
@[simp] theorem writeFlags_iy (f : FlagWrite) : (s.writeFlags f).iy = s.iy := rfl
@[simp] theorem writeFlags_sp (f : FlagWrite) : (s.writeFlags f).sp = s.sp := rfl
@[simp] theorem writeFlags_pc (f : FlagWrite) : (s.writeFlags f).pc = s.pc := rfl
@[simp] theorem writeFlags_runState (f : FlagWrite) : (s.writeFlags f).runState = s.runState := rfl
@[simp] theorem writeFlags_inhibitInt (f : FlagWrite) : (s.writeFlags f).inhibitInt = s.inhibitInt := rfl
@[simp] theorem writeFlags_nmiPending (f : FlagWrite) : (s.writeFlags f).nmiPending = s.nmiPending := rfl
@[simp] theorem writeFlags_mem (f : FlagWrite) : (s.writeFlags f).mem = s.mem := rfl
@[simp] theorem writeFlags_model (f : FlagWrite) : (s.writeFlags f).model = s.model := rfl
@[simp] theorem writeFlags_mode (f : FlagWrite) : (s.writeFlags f).mode = s.mode := rfl
@[simp] theorem writeFlags_pins (f : FlagWrite) : (s.writeFlags f).pins = s.pins := rfl
@[simp] theorem writeFlags_env (f : FlagWrite) : (s.writeFlags f).env = s.env := rfl
@[simp] theorem writeFlags_freeIdx (f : FlagWrite) : (s.writeFlags f).freeIdx = s.freeIdx := rfl
@[simp] theorem writeFlags_lateStore (f : FlagWrite) : (s.writeFlags f).lateStore = s.lateStore := rfl

@[simp] theorem holdInterrupts_a : s.holdInterrupts.a = s.a := rfl
@[simp] theorem holdInterrupts_b : s.holdInterrupts.b = s.b := rfl
@[simp] theorem holdInterrupts_l : s.holdInterrupts.l = s.l := rfl
@[simp] theorem holdInterrupts_h : s.holdInterrupts.h = s.h := rfl
@[simp] theorem holdInterrupts_br : s.holdInterrupts.br = s.br := rfl
@[simp] theorem holdInterrupts_sc : s.holdInterrupts.sc = s.sc := rfl
@[simp] theorem holdInterrupts_nb : s.holdInterrupts.nb = s.nb := rfl
@[simp] theorem holdInterrupts_cb : s.holdInterrupts.cb = s.cb := rfl
@[simp] theorem holdInterrupts_ep : s.holdInterrupts.ep = s.ep := rfl
@[simp] theorem holdInterrupts_xp : s.holdInterrupts.xp = s.xp := rfl
@[simp] theorem holdInterrupts_yp : s.holdInterrupts.yp = s.yp := rfl
@[simp] theorem holdInterrupts_ix : s.holdInterrupts.ix = s.ix := rfl
@[simp] theorem holdInterrupts_iy : s.holdInterrupts.iy = s.iy := rfl
@[simp] theorem holdInterrupts_sp : s.holdInterrupts.sp = s.sp := rfl
@[simp] theorem holdInterrupts_pc : s.holdInterrupts.pc = s.pc := rfl
@[simp] theorem holdInterrupts_runState : s.holdInterrupts.runState = s.runState := rfl
@[simp] theorem holdInterrupts_inhibitInt : s.holdInterrupts.inhibitInt = true := rfl
@[simp] theorem holdInterrupts_nmiPending : s.holdInterrupts.nmiPending = s.nmiPending := rfl
@[simp] theorem holdInterrupts_mem : s.holdInterrupts.mem = s.mem := rfl
@[simp] theorem holdInterrupts_model : s.holdInterrupts.model = s.model := rfl
@[simp] theorem holdInterrupts_mode : s.holdInterrupts.mode = s.mode := rfl
@[simp] theorem holdInterrupts_pins : s.holdInterrupts.pins = s.pins := rfl
@[simp] theorem holdInterrupts_env : s.holdInterrupts.env = s.env := rfl
@[simp] theorem holdInterrupts_freeIdx : s.holdInterrupts.freeIdx = s.freeIdx := rfl
@[simp] theorem holdInterrupts_lateStore : s.holdInterrupts.lateStore = s.lateStore := rfl

@[simp] theorem writeSC_a (v : Byte) : (s.writeSC v).a = s.a := rfl
@[simp] theorem writeSC_b (v : Byte) : (s.writeSC v).b = s.b := rfl
@[simp] theorem writeSC_l (v : Byte) : (s.writeSC v).l = s.l := rfl
@[simp] theorem writeSC_h (v : Byte) : (s.writeSC v).h = s.h := rfl
@[simp] theorem writeSC_br (v : Byte) : (s.writeSC v).br = s.br := rfl
@[simp] theorem writeSC_sc (v : Byte) : (s.writeSC v).sc = v := rfl
@[simp] theorem writeSC_nb (v : Byte) : (s.writeSC v).nb = s.nb := rfl
@[simp] theorem writeSC_cb (v : Byte) : (s.writeSC v).cb = s.cb := rfl
@[simp] theorem writeSC_ep (v : Byte) : (s.writeSC v).ep = s.ep := rfl
@[simp] theorem writeSC_xp (v : Byte) : (s.writeSC v).xp = s.xp := rfl
@[simp] theorem writeSC_yp (v : Byte) : (s.writeSC v).yp = s.yp := rfl
@[simp] theorem writeSC_ix (v : Byte) : (s.writeSC v).ix = s.ix := rfl
@[simp] theorem writeSC_iy (v : Byte) : (s.writeSC v).iy = s.iy := rfl
@[simp] theorem writeSC_sp (v : Byte) : (s.writeSC v).sp = s.sp := rfl
@[simp] theorem writeSC_pc (v : Byte) : (s.writeSC v).pc = s.pc := rfl
@[simp] theorem writeSC_runState (v : Byte) : (s.writeSC v).runState = s.runState := rfl
@[simp] theorem writeSC_inhibitInt (v : Byte) : (s.writeSC v).inhibitInt = true := rfl
@[simp] theorem writeSC_nmiPending (v : Byte) : (s.writeSC v).nmiPending = s.nmiPending := rfl
@[simp] theorem writeSC_mem (v : Byte) : (s.writeSC v).mem = s.mem := rfl
@[simp] theorem writeSC_model (v : Byte) : (s.writeSC v).model = s.model := rfl
@[simp] theorem writeSC_mode (v : Byte) : (s.writeSC v).mode = s.mode := rfl
@[simp] theorem writeSC_pins (v : Byte) : (s.writeSC v).pins = s.pins := rfl
@[simp] theorem writeSC_env (v : Byte) : (s.writeSC v).env = s.env := rfl
@[simp] theorem writeSC_freeIdx (v : Byte) : (s.writeSC v).freeIdx = s.freeIdx := rfl
@[simp] theorem writeSC_lateStore (v : Byte) : (s.writeSC v).lateStore = s.lateStore := rfl

@[simp] theorem countFreeDecimal_a (x y : Byte) : (s.countFreeDecimal x y).a = s.a := rfl
@[simp] theorem countFreeDecimal_b (x y : Byte) : (s.countFreeDecimal x y).b = s.b := rfl
@[simp] theorem countFreeDecimal_l (x y : Byte) : (s.countFreeDecimal x y).l = s.l := rfl
@[simp] theorem countFreeDecimal_h (x y : Byte) : (s.countFreeDecimal x y).h = s.h := rfl
@[simp] theorem countFreeDecimal_br (x y : Byte) : (s.countFreeDecimal x y).br = s.br := rfl
@[simp] theorem countFreeDecimal_sc (x y : Byte) : (s.countFreeDecimal x y).sc = s.sc := rfl
@[simp] theorem countFreeDecimal_nb (x y : Byte) : (s.countFreeDecimal x y).nb = s.nb := rfl
@[simp] theorem countFreeDecimal_cb (x y : Byte) : (s.countFreeDecimal x y).cb = s.cb := rfl
@[simp] theorem countFreeDecimal_ep (x y : Byte) : (s.countFreeDecimal x y).ep = s.ep := rfl
@[simp] theorem countFreeDecimal_xp (x y : Byte) : (s.countFreeDecimal x y).xp = s.xp := rfl
@[simp] theorem countFreeDecimal_yp (x y : Byte) : (s.countFreeDecimal x y).yp = s.yp := rfl
@[simp] theorem countFreeDecimal_ix (x y : Byte) : (s.countFreeDecimal x y).ix = s.ix := rfl
@[simp] theorem countFreeDecimal_iy (x y : Byte) : (s.countFreeDecimal x y).iy = s.iy := rfl
@[simp] theorem countFreeDecimal_sp (x y : Byte) : (s.countFreeDecimal x y).sp = s.sp := rfl
@[simp] theorem countFreeDecimal_pc (x y : Byte) : (s.countFreeDecimal x y).pc = s.pc := rfl
@[simp] theorem countFreeDecimal_runState (x y : Byte) : (s.countFreeDecimal x y).runState = s.runState := rfl
@[simp] theorem countFreeDecimal_inhibitInt (x y : Byte) : (s.countFreeDecimal x y).inhibitInt = s.inhibitInt := rfl
@[simp] theorem countFreeDecimal_nmiPending (x y : Byte) : (s.countFreeDecimal x y).nmiPending = s.nmiPending := rfl
@[simp] theorem countFreeDecimal_mem (x y : Byte) : (s.countFreeDecimal x y).mem = s.mem := rfl
@[simp] theorem countFreeDecimal_model (x y : Byte) : (s.countFreeDecimal x y).model = s.model := rfl
@[simp] theorem countFreeDecimal_mode (x y : Byte) : (s.countFreeDecimal x y).mode = s.mode := rfl
@[simp] theorem countFreeDecimal_pins (x y : Byte) : (s.countFreeDecimal x y).pins = s.pins := rfl
@[simp] theorem countFreeDecimal_env (x y : Byte) : (s.countFreeDecimal x y).env = s.env := rfl
@[simp] theorem countFreeDecimal_freeIdx (x y : Byte) :
    (s.countFreeDecimal x y).freeIdx = if digitsValid s.aluMode x y then s.freeIdx else s.freeIdx + 1 := rfl
@[simp] theorem countFreeDecimal_lateStore (x y : Byte) : (s.countFreeDecimal x y).lateStore = s.lateStore := rfl

@[simp] theorem drop8_a : s.drop8.a = s.a := rfl
@[simp] theorem drop8_b : s.drop8.b = s.b := rfl
@[simp] theorem drop8_l : s.drop8.l = s.l := rfl
@[simp] theorem drop8_h : s.drop8.h = s.h := rfl
@[simp] theorem drop8_br : s.drop8.br = s.br := rfl
@[simp] theorem drop8_sc : s.drop8.sc = s.sc := rfl
@[simp] theorem drop8_nb : s.drop8.nb = s.nb := rfl
@[simp] theorem drop8_cb : s.drop8.cb = s.cb := rfl
@[simp] theorem drop8_ep : s.drop8.ep = s.ep := rfl
@[simp] theorem drop8_xp : s.drop8.xp = s.xp := rfl
@[simp] theorem drop8_yp : s.drop8.yp = s.yp := rfl
@[simp] theorem drop8_ix : s.drop8.ix = s.ix := rfl
@[simp] theorem drop8_iy : s.drop8.iy = s.iy := rfl
@[simp] theorem drop8_sp : s.drop8.sp = s.sp + 1#16 := rfl
@[simp] theorem drop8_pc : s.drop8.pc = s.pc := rfl
@[simp] theorem drop8_runState : s.drop8.runState = s.runState := rfl
@[simp] theorem drop8_inhibitInt : s.drop8.inhibitInt = s.inhibitInt := rfl
@[simp] theorem drop8_nmiPending : s.drop8.nmiPending = s.nmiPending := rfl
@[simp] theorem drop8_mem : s.drop8.mem = s.mem := rfl
@[simp] theorem drop8_model : s.drop8.model = s.model := rfl
@[simp] theorem drop8_mode : s.drop8.mode = s.mode := rfl
@[simp] theorem drop8_pins : s.drop8.pins = s.pins := rfl
@[simp] theorem drop8_env : s.drop8.env = s.env := rfl
@[simp] theorem drop8_freeIdx : s.drop8.freeIdx = s.freeIdx := rfl
@[simp] theorem drop8_lateStore : s.drop8.lateStore = s.lateStore := rfl

@[simp] theorem push8_a (v : Byte) : (s.push8 v).a = s.a := rfl
@[simp] theorem push8_b (v : Byte) : (s.push8 v).b = s.b := rfl
@[simp] theorem push8_l (v : Byte) : (s.push8 v).l = s.l := rfl
@[simp] theorem push8_h (v : Byte) : (s.push8 v).h = s.h := rfl
@[simp] theorem push8_br (v : Byte) : (s.push8 v).br = s.br := rfl
@[simp] theorem push8_sc (v : Byte) : (s.push8 v).sc = s.sc := rfl
@[simp] theorem push8_nb (v : Byte) : (s.push8 v).nb = s.nb := rfl
@[simp] theorem push8_cb (v : Byte) : (s.push8 v).cb = s.cb := rfl
@[simp] theorem push8_ep (v : Byte) : (s.push8 v).ep = s.ep := rfl
@[simp] theorem push8_xp (v : Byte) : (s.push8 v).xp = s.xp := rfl
@[simp] theorem push8_yp (v : Byte) : (s.push8 v).yp = s.yp := rfl
@[simp] theorem push8_ix (v : Byte) : (s.push8 v).ix = s.ix := rfl
@[simp] theorem push8_iy (v : Byte) : (s.push8 v).iy = s.iy := rfl
@[simp] theorem push8_sp (v : Byte) : (s.push8 v).sp = s.sp - 1#16 := rfl
@[simp] theorem push8_pc (v : Byte) : (s.push8 v).pc = s.pc := rfl
@[simp] theorem push8_runState (v : Byte) : (s.push8 v).runState = s.runState := rfl
@[simp] theorem push8_inhibitInt (v : Byte) : (s.push8 v).inhibitInt = s.inhibitInt := rfl
@[simp] theorem push8_nmiPending (v : Byte) : (s.push8 v).nmiPending = s.nmiPending := rfl
@[simp] theorem push8_mem (v : Byte) :
    (s.push8 v).mem = Memory.write s.mem (s.dataAddr s.pins.spp (s.sp - 1#16)) v := rfl
@[simp] theorem push8_model (v : Byte) : (s.push8 v).model = s.model := rfl
@[simp] theorem push8_mode (v : Byte) : (s.push8 v).mode = s.mode := rfl
@[simp] theorem push8_pins (v : Byte) : (s.push8 v).pins = s.pins := rfl
@[simp] theorem push8_env (v : Byte) : (s.push8 v).env = s.env := rfl
@[simp] theorem push8_freeIdx (v : Byte) : (s.push8 v).freeIdx = s.freeIdx := rfl
@[simp] theorem push8_lateStore (v : Byte) :
    (s.push8 v).lateStore = some (s.dataAddr s.pins.spp (s.sp - 1#16), s.readMem (s.dataAddr s.pins.spp (s.sp - 1#16))) := rfl

@[simp] theorem taken_a : s.taken.a = s.a := rfl
@[simp] theorem taken_b : s.taken.b = s.b := rfl
@[simp] theorem taken_l : s.taken.l = s.l := rfl
@[simp] theorem taken_h : s.taken.h = s.h := rfl
@[simp] theorem taken_br : s.taken.br = s.br := rfl
@[simp] theorem taken_sc : s.taken.sc = s.sc := rfl
@[simp] theorem taken_nb : s.taken.nb = s.nb := rfl
@[simp] theorem taken_cb : s.taken.cb = if s.hasBank then s.nb else s.cb := rfl
@[simp] theorem taken_ep : s.taken.ep = s.ep := rfl
@[simp] theorem taken_xp : s.taken.xp = s.xp := rfl
@[simp] theorem taken_yp : s.taken.yp = s.yp := rfl
@[simp] theorem taken_ix : s.taken.ix = s.ix := rfl
@[simp] theorem taken_iy : s.taken.iy = s.iy := rfl
@[simp] theorem taken_sp : s.taken.sp = s.sp := rfl
@[simp] theorem taken_pc : s.taken.pc = s.pc := rfl
@[simp] theorem taken_runState : s.taken.runState = s.runState := rfl
@[simp] theorem taken_inhibitInt : s.taken.inhibitInt = s.inhibitInt := rfl
@[simp] theorem taken_nmiPending : s.taken.nmiPending = s.nmiPending := rfl
@[simp] theorem taken_mem : s.taken.mem = s.mem := rfl
@[simp] theorem taken_model : s.taken.model = s.model := rfl
@[simp] theorem taken_mode : s.taken.mode = s.mode := rfl
@[simp] theorem taken_pins : s.taken.pins = s.pins := rfl
@[simp] theorem taken_env : s.taken.env = s.env := rfl
@[simp] theorem taken_freeIdx : s.taken.freeIdx = s.freeIdx := rfl
@[simp] theorem taken_lateStore : s.taken.lateStore = s.lateStore := rfl

@[simp] theorem notTaken_a : s.notTaken.a = s.a := rfl
@[simp] theorem notTaken_b : s.notTaken.b = s.b := rfl
@[simp] theorem notTaken_l : s.notTaken.l = s.l := rfl
@[simp] theorem notTaken_h : s.notTaken.h = s.h := rfl
@[simp] theorem notTaken_br : s.notTaken.br = s.br := rfl
@[simp] theorem notTaken_sc : s.notTaken.sc = s.sc := rfl
@[simp] theorem notTaken_nb : s.notTaken.nb = if s.hasBank then s.cb else s.nb := rfl
@[simp] theorem notTaken_cb : s.notTaken.cb = s.cb := rfl
@[simp] theorem notTaken_ep : s.notTaken.ep = s.ep := rfl
@[simp] theorem notTaken_xp : s.notTaken.xp = s.xp := rfl
@[simp] theorem notTaken_yp : s.notTaken.yp = s.yp := rfl
@[simp] theorem notTaken_ix : s.notTaken.ix = s.ix := rfl
@[simp] theorem notTaken_iy : s.notTaken.iy = s.iy := rfl
@[simp] theorem notTaken_sp : s.notTaken.sp = s.sp := rfl
@[simp] theorem notTaken_pc : s.notTaken.pc = s.pc := rfl
@[simp] theorem notTaken_runState : s.notTaken.runState = s.runState := rfl
@[simp] theorem notTaken_inhibitInt : s.notTaken.inhibitInt = s.inhibitInt := rfl
@[simp] theorem notTaken_nmiPending : s.notTaken.nmiPending = s.nmiPending := rfl
@[simp] theorem notTaken_mem : s.notTaken.mem = s.mem := rfl
@[simp] theorem notTaken_model : s.notTaken.model = s.model := rfl
@[simp] theorem notTaken_mode : s.notTaken.mode = s.mode := rfl
@[simp] theorem notTaken_pins : s.notTaken.pins = s.pins := rfl
@[simp] theorem notTaken_env : s.notTaken.env = s.env := rfl
@[simp] theorem notTaken_freeIdx : s.notTaken.freeIdx = s.freeIdx := rfl
@[simp] theorem notTaken_lateStore : s.notTaken.lateStore = s.lateStore := rfl

@[simp] theorem setPC_a (target : Word) : (s.setPC target).a = s.a := rfl
@[simp] theorem setPC_b (target : Word) : (s.setPC target).b = s.b := rfl
@[simp] theorem setPC_l (target : Word) : (s.setPC target).l = s.l := rfl
@[simp] theorem setPC_h (target : Word) : (s.setPC target).h = s.h := rfl
@[simp] theorem setPC_br (target : Word) : (s.setPC target).br = s.br := rfl
@[simp] theorem setPC_sc (target : Word) : (s.setPC target).sc = s.sc := rfl
@[simp] theorem setPC_nb (target : Word) : (s.setPC target).nb = s.nb := rfl
@[simp] theorem setPC_cb (target : Word) : (s.setPC target).cb = s.cb := rfl
@[simp] theorem setPC_ep (target : Word) : (s.setPC target).ep = s.ep := rfl
@[simp] theorem setPC_xp (target : Word) : (s.setPC target).xp = s.xp := rfl
@[simp] theorem setPC_yp (target : Word) : (s.setPC target).yp = s.yp := rfl
@[simp] theorem setPC_ix (target : Word) : (s.setPC target).ix = s.ix := rfl
@[simp] theorem setPC_iy (target : Word) : (s.setPC target).iy = s.iy := rfl
@[simp] theorem setPC_sp (target : Word) : (s.setPC target).sp = s.sp := rfl
@[simp] theorem setPC_pc (target : Word) : (s.setPC target).pc = target := rfl
@[simp] theorem setPC_runState (target : Word) : (s.setPC target).runState = s.runState := rfl
@[simp] theorem setPC_inhibitInt (target : Word) : (s.setPC target).inhibitInt = s.inhibitInt := rfl
@[simp] theorem setPC_nmiPending (target : Word) : (s.setPC target).nmiPending = s.nmiPending := rfl
@[simp] theorem setPC_mem (target : Word) : (s.setPC target).mem = s.mem := rfl
@[simp] theorem setPC_model (target : Word) : (s.setPC target).model = s.model := rfl
@[simp] theorem setPC_mode (target : Word) : (s.setPC target).mode = s.mode := rfl
@[simp] theorem setPC_pins (target : Word) : (s.setPC target).pins = s.pins := rfl
@[simp] theorem setPC_env (target : Word) : (s.setPC target).env = s.env := rfl
@[simp] theorem setPC_freeIdx (target : Word) : (s.setPC target).freeIdx = s.freeIdx := rfl
@[simp] theorem setPC_lateStore (target : Word) : (s.setPC target).lateStore = none := rfl

end Sys2Proof.Laws
end

