-- ==== Sys2Proof/Laws/Flags.lean ====
section
/-! SUPPORT. What writing flags does to each bit of SC. -/

namespace Sys2Proof.Laws

open Sys2Proof.Machine

theorem flagsInto_z (sc : Byte) (f : FlagWrite) :
    (flagsInto sc f).getLsbD 0 = f.z.getD (sc.getLsbD 0) := by
  simp only [flagsInto, BitVec.getLsbD_append]
  simp

theorem flagsInto_c (sc : Byte) (f : FlagWrite) :
    (flagsInto sc f).getLsbD 1 = f.c.getD (sc.getLsbD 1) := by
  simp only [flagsInto, BitVec.getLsbD_append]
  simp

theorem flagsInto_v (sc : Byte) (f : FlagWrite) :
    (flagsInto sc f).getLsbD 2 = f.v.getD (sc.getLsbD 2) := by
  simp only [flagsInto, BitVec.getLsbD_append]
  simp

theorem flagsInto_n (sc : Byte) (f : FlagWrite) :
    (flagsInto sc f).getLsbD 3 = f.n.getD (sc.getLsbD 3) := by
  simp only [flagsInto, BitVec.getLsbD_append]
  simp

/-- I1, I0, U, D are kept. -/
theorem flagsInto_high (sc : Byte) (f : FlagWrite) :
    (flagsInto sc f).extractLsb' 4 4 = sc.extractLsb' 4 4 := by
  ext i hi
  have h1 : ¬ 4 + i < 1 := by omega
  have h2 : ¬ 4 + i - 1 < 1 := by omega
  have h3 : ¬ 4 + i - 1 - 1 < 1 := by omega
  have h4 : ¬ 4 + i - 1 - 1 - 1 < 1 := by omega
  simp only [flagsInto, BitVec.getElem_extractLsb', BitVec.getLsbD_append, BitVec.getLsbD_extractLsb', h1, h2,
    h3, h4, if_false]
  simp [hi]

@[simp] theorem writeFlags_flagZ (s : State) (f : FlagWrite) :
    (s.writeFlags f).flagZ = f.z.getD s.flagZ := flagsInto_z ..

@[simp] theorem writeFlags_flagC (s : State) (f : FlagWrite) :
    (s.writeFlags f).flagC = f.c.getD s.flagC := flagsInto_c ..

@[simp] theorem writeFlags_flagV (s : State) (f : FlagWrite) :
    (s.writeFlags f).flagV = f.v.getD s.flagV := flagsInto_v ..

@[simp] theorem writeFlags_flagN (s : State) (f : FlagWrite) :
    (s.writeFlags f).flagN = f.n.getD s.flagN := flagsInto_n ..

/-- What `writeFlags` does, once: each written flag has its value, every other bit of SC is kept. -/
theorem writeFlags_spec (s : State) (f : FlagWrite) :
    (s.writeFlags f).flagN = f.n.getD s.flagN ∧ (s.writeFlags f).flagV = f.v.getD s.flagV ∧
      (s.writeFlags f).flagC = f.c.getD s.flagC ∧ (s.writeFlags f).flagZ = f.z.getD s.flagZ ∧
      (s.writeFlags f).sc.extractLsb' 4 4 = s.sc.extractLsb' 4 4 :=
  ⟨writeFlags_flagN s f, writeFlags_flagV s f, writeFlags_flagC s f, writeFlags_flagZ s f,
    flagsInto_high s.sc f⟩

theorem flagsInto_bit (sc : Byte) (f : FlagWrite) (k : Nat) (hk : 4 ≤ k) :
    (flagsInto sc f).getLsbD k = sc.getLsbD k := by
  by_cases h8 : k < 8
  · have h := congrArg (fun x : BitVec 4 => x.getLsbD (k - 4)) (flagsInto_high sc f)
    have h4 : k - 4 < 4 := by omega
    have hk' : 4 + (k - 4) = k := by omega
    simpa [BitVec.getLsbD_extractLsb', h4, hk'] using h
  · rw [BitVec.getLsbD_of_ge _ _ (by omega), BitVec.getLsbD_of_ge _ _ (by omega)]

@[simp] theorem writeFlags_flagD (s : State) (f : FlagWrite) : (s.writeFlags f).flagD = s.flagD :=
  flagsInto_bit s.sc f 4 (by omega)

@[simp] theorem writeFlags_flagU (s : State) (f : FlagWrite) : (s.writeFlags f).flagU = s.flagU :=
  flagsInto_bit s.sc f 5 (by omega)

@[simp] theorem writeFlags_maskLevel (s : State) (f : FlagWrite) :
    (s.writeFlags f).maskLevel = s.maskLevel := by
  have h : (flagsInto s.sc f).extractLsb' 6 2 = s.sc.extractLsb' 6 2 := by
    ext i hi
    simp only [BitVec.getElem_extractLsb']
    exact flagsInto_bit s.sc f (6 + i) (by omega)
  simp only [State.maskLevel, writeFlags_sc, h]

end Sys2Proof.Laws
end

