-- ==== Sys2Proof/Laws/Memory.lean ====
section
/-! SUPPORT. The laws of memory: a read after a write, and the canonical form. -/

namespace Sys2Proof.Laws

open Sys2Proof.Machine

theorem read_erase_same (m : List Host.Cell) (a : Nat) :
    Memory.read (Memory.erase m a) a = Memory.unlisted := by
  induction m with
  | nil => rfl
  | cons c rest ih => obtain ⟨k, v⟩ := c; by_cases h : k = a <;> simp [Memory.erase, Memory.read, h, ih]

theorem read_erase_other (m : List Host.Cell) {a b : Nat} (h : b ≠ a) :
    Memory.read (Memory.erase m a) b = Memory.read m b := by
  induction m with
  | nil => rfl
  | cons c rest ih =>
    obtain ⟨k, v⟩ := c
    by_cases hk : k = a
    · subst hk; simp [Memory.erase, Memory.read, Ne.symm h, ih]
    · by_cases hb : k = b
      · subst hb; simp [Memory.erase, Memory.read, hk]
      · simp [Memory.erase, Memory.read, hk, hb, ih]

theorem read_insert_other (m : List Host.Cell) {a b : Nat} (v : Byte) (h : b ≠ a) :
    Memory.read (Memory.insert m a v) b = Memory.read m b := by
  induction m with
  | nil => simp [Memory.insert, Memory.read, Ne.symm h]
  | cons c rest ih =>
    obtain ⟨k, w⟩ := c
    by_cases hk : a < k
    · simp [Memory.insert, Memory.read, hk, Ne.symm h]
    · by_cases hb : k = b
      · subst hb; simp [Memory.insert, Memory.read, hk]
      · simp [Memory.insert, Memory.read, hk, hb, ih]

theorem read_insert_erase (m : List Host.Cell) (a : Nat) (v : Byte) :
    Memory.read (Memory.insert (Memory.erase m a) a v) a = v := by
  induction m with
  | nil => simp [Memory.insert, Memory.erase, Memory.read]
  | cons c rest ih =>
    obtain ⟨k, w⟩ := c
    by_cases hk : k = a
    · simp [Memory.erase, hk, ih]
    · by_cases hl : a < k <;> simp [Memory.insert, Memory.erase, Memory.read, hk, hl, ih]

/-- A read after a write to the same address gives the byte written. -/
@[simp] theorem read_write_same (m : List Host.Cell) (a : Nat) (v : Byte) :
    Memory.read (Memory.write m a v) a = v := by
  by_cases h : v = Memory.unlisted
  · simp [Memory.write, h, read_erase_same]
  · simp [Memory.write, h, read_insert_erase]

/-- A write leaves every other address alone. -/
theorem read_write_other (m : List Host.Cell) {a b : Nat} (v : Byte) (h : b ≠ a) :
    Memory.read (Memory.write m a v) b = Memory.read m b := by
  by_cases hv : v = Memory.unlisted
  · simp [Memory.write, hv, read_erase_other m h]
  · simp [Memory.write, hv, read_insert_other _ v h, read_erase_other m h]

/-- A read after a write, both cases. -/
theorem read_write (m : List Host.Cell) (a b : Nat) (v : Byte) :
    Memory.read (Memory.write m a v) b = if b = a then v else Memory.read m b := by
  by_cases h : b = a
  · subst h; simp
  · simp [h, read_write_other m v h]

/-- Every address of the list is above `a`. -/
def Above (a : Nat) (m : List Host.Cell) : Prop := ∀ c ∈ m, a < c.1

theorem wf_cons {k : Nat} {v : Byte} {m : List Host.Cell} :
    Memory.wf ((k, v) :: m) = true ↔ v ≠ Memory.unlisted ∧ Above k m ∧ Memory.wf m = true := by
  induction m generalizing k v with
  | nil => simp [Memory.wf, Above]
  | cons c rest ih =>
    obtain ⟨k', v'⟩ := c
    constructor
    · intro h
      simp only [Memory.wf, Bool.and_eq_true, decide_eq_true_eq, bne_iff_ne] at h
      refine ⟨h.1.2, ?_, h.2⟩
      intro c hc
      rcases List.mem_cons.1 hc with rfl | hc
      · exact h.1.1
      · exact Nat.lt_trans h.1.1 ((ih.1 h.2).2.1 c hc)
    · rintro ⟨hv, ha, hw⟩
      simp only [Memory.wf, Bool.and_eq_true, decide_eq_true_eq, bne_iff_ne]
      exact ⟨⟨ha _ (List.mem_cons_self ..), hv⟩, hw⟩

theorem mem_erase {m : List Host.Cell} {a : Nat} {c : Host.Cell} (h : c ∈ Memory.erase m a) :
    c ∈ m ∧ c.1 ≠ a := by
  induction m with
  | nil => simp [Memory.erase] at h
  | cons d rest ih =>
    obtain ⟨k, v⟩ := d
    by_cases hk : k = a
    · simp only [Memory.erase, hk, if_true] at h
      exact ⟨List.mem_cons_of_mem _ (ih h).1, (ih h).2⟩
    · simp only [Memory.erase, hk, if_false, List.mem_cons] at h
      rcases h with rfl | h
      · exact ⟨List.mem_cons_self .., hk⟩
      · exact ⟨List.mem_cons_of_mem _ (ih h).1, (ih h).2⟩

theorem mem_insert {m : List Host.Cell} {a : Nat} {v : Byte} {c : Host.Cell}
    (h : c ∈ Memory.insert m a v) : c = (a, v) ∨ c ∈ m := by
  induction m with
  | nil => simpa [Memory.insert] using h
  | cons d rest ih =>
    obtain ⟨k, w⟩ := d
    by_cases hk : a < k
    · simpa [Memory.insert, hk] using h
    · simp only [Memory.insert, hk, if_false, List.mem_cons] at h ⊢
      rcases h with rfl | h
      · exact .inr (.inl rfl)
      · rcases ih h with rfl | h
        · exact .inl rfl
        · exact .inr (.inr h)

theorem wf_erase {m : List Host.Cell} (a : Nat) (h : Memory.wf m = true) :
    Memory.wf (Memory.erase m a) = true := by
  induction m with
  | nil => rfl
  | cons d rest ih =>
    obtain ⟨k, v⟩ := d
    obtain ⟨hv, ha, hw⟩ := wf_cons.1 h
    by_cases hk : k = a
    · simpa [Memory.erase, hk] using ih hw
    · simp only [Memory.erase, hk, if_false]
      exact wf_cons.2 ⟨hv, fun c hc => ha c (mem_erase hc).1, ih hw⟩

theorem wf_insert {m : List Host.Cell} {a : Nat} {v : Byte} (hv : v ≠ Memory.unlisted)
    (h : Memory.wf m = true) (hn : ∀ c ∈ m, c.1 ≠ a) : Memory.wf (Memory.insert m a v) = true := by
  induction m with
  | nil => simpa [Memory.insert, Memory.wf] using hv
  | cons d rest ih =>
    obtain ⟨k, w⟩ := d
    obtain ⟨hw, ha, hr⟩ := wf_cons.1 h
    by_cases hk : a < k
    · simp only [Memory.insert, hk, if_true]
      refine wf_cons.2 ⟨hv, fun c hc => ?_, h⟩
      rcases List.mem_cons.1 hc with rfl | hc
      · exact hk
      · exact Nat.lt_trans hk (ha c hc)
    · simp only [Memory.insert, hk, if_false]
      have hka : k < a := by
        have := hn (k, w) (List.mem_cons_self ..)
        simp only at this; omega
      refine wf_cons.2 ⟨hw, fun c hc => ?_, ih hr fun c hc => hn c (List.mem_cons_of_mem _ hc)⟩
      rcases mem_insert hc with rfl | hc
      · exact hka
      · exact ha c hc

/-- A write keeps the canonical form. -/
theorem wf_write {m : List Host.Cell} (a : Nat) (v : Byte) (h : Memory.wf m = true) :
    Memory.wf (Memory.write m a v) = true := by
  by_cases hv : v = Memory.unlisted
  · simpa [Memory.write, hv] using wf_erase a h
  · simpa [Memory.write, hv] using wf_insert hv (wf_erase a h) fun c hc => (mem_erase hc).2

/-- A write lists no address but its own and those listed before. -/
theorem mem_write {m : List Host.Cell} {a : Nat} {v : Byte} {c : Host.Cell}
    (h : c ∈ Memory.write m a v) : c.1 = a ∨ c ∈ m := by
  by_cases hv : v = Memory.unlisted
  · simp only [Memory.write, hv, if_true] at h
    exact .inr (mem_erase h).1
  · simp only [Memory.write, hv, if_false] at h
    rcases mem_insert h with rfl | h
    · exact .inl rfl
    · exact .inr (mem_erase h).1

/-- In canonical form, equal reads make equal lists: a read of an address below every listed one is unlisted. -/
theorem read_above {m : List Host.Cell} {a : Nat} (h : ∀ c ∈ m, a < c.1) :
    Memory.read m a = Memory.unlisted := by
  induction m with
  | nil => rfl
  | cons d rest ih =>
    obtain ⟨k, v⟩ := d
    have hk : k ≠ a := by have := h (k, v) (List.mem_cons_self ..); simp only at this; omega
    simpa [Memory.read, hk] using ih fun c hc => h c (List.mem_cons_of_mem _ hc)

end Sys2Proof.Laws
end

