-- ==== Sys2Proof/Laws/Operands.lean ====
section
/-! SUPPORT. Registers, pairs, addresses and operands: what each write does, once, and what each view of the state
does not see. -/

namespace Sys2Proof.Laws

open Sys2Proof.Machine

/-! ### Bytes of a word -/

theorem toNat_word16 (hi lo : Byte) : (word16 hi lo).toNat = 256 * hi.toNat + lo.toNat := by
  show (hi ++ lo : BitVec (8 + 8)).toNat = _
  rw [BitVec.toNat_append, Nat.shiftLeft_eq, Nat.mul_comm, ← Nat.two_pow_add_eq_or_of_lt lo.isLt]

theorem toNat_lowByte (w : Word) : (lowByte w).toNat = w.toNat % 256 := by
  simp [lowByte, BitVec.extractLsb'_toNat]

theorem toNat_highByte (w : Word) : (highByte w).toNat = w.toNat / 256 := by
  have h := w.isLt
  simp only [highByte, BitVec.extractLsb'_toNat, Nat.shiftRight_eq_div_pow]
  omega

@[simp] theorem lowByte_word16 (hi lo : Byte) : lowByte (word16 hi lo) = lo := by
  have h := lo.isLt
  apply BitVec.eq_of_toNat_eq
  rw [toNat_lowByte, toNat_word16]
  omega

@[simp] theorem highByte_word16 (hi lo : Byte) : highByte (word16 hi lo) = hi := by
  have h := lo.isLt
  apply BitVec.eq_of_toNat_eq
  rw [toNat_highByte, toNat_word16]
  omega

@[simp] theorem word16_bytes (w : Word) : word16 (highByte w) (lowByte w) = w := by
  apply BitVec.eq_of_toNat_eq
  rw [toNat_word16, toNat_highByte, toNat_lowByte]
  omega

/-! ### Registers -/

/-- What `setReg8` does to the 8-bit registers. -/
theorem reg8_setReg8 (s : State) (r q : Reg8) (v : Byte) :
    (s.setReg8 r v).reg8 q = if q = r then v else s.reg8 q := by
  cases r <;> cases q <;> rfl

@[simp] theorem reg8_setReg8_same (s : State) (r : Reg8) (v : Byte) : (s.setReg8 r v).reg8 r = v := by
  cases r <;> rfl

@[simp] theorem reg16_setReg16_same (s : State) (r : Reg16) (v : Word) : (s.setReg16 r v).reg16 r = v := by
  cases r <;> simp [State.setReg16, State.reg16]

/-- What `setReg16` leaves alone among the pairs and 16-bit registers: they share no storage. -/
theorem reg16_setReg16 (s : State) (r q : Reg16) (v : Word) :
    (s.setReg16 r v).reg16 q = if q = r then v else s.reg16 q := by
  by_cases h : q = r
  · subst h; simp
  · rw [if_neg h]; cases r <;> cases q <;> first | rfl | exact absurd rfl h

@[simp] theorem setReg8_pc (s : State) (r : Reg8) (v : Byte) : (s.setReg8 r v).pc = s.pc := by
  cases r <;> rfl
@[simp] theorem setReg8_runState (s : State) (r : Reg8) (v : Byte) : (s.setReg8 r v).runState = s.runState := by
  cases r <;> rfl
@[simp] theorem setReg8_inhibitInt (s : State) (r : Reg8) (v : Byte) : (s.setReg8 r v).inhibitInt = s.inhibitInt := by
  cases r <;> rfl
@[simp] theorem setReg8_nmiPending (s : State) (r : Reg8) (v : Byte) : (s.setReg8 r v).nmiPending = s.nmiPending := by
  cases r <;> rfl
@[simp] theorem setReg8_mem (s : State) (r : Reg8) (v : Byte) : (s.setReg8 r v).mem = s.mem := by
  cases r <;> rfl
@[simp] theorem setReg8_model (s : State) (r : Reg8) (v : Byte) : (s.setReg8 r v).model = s.model := by
  cases r <;> rfl
@[simp] theorem setReg8_mode (s : State) (r : Reg8) (v : Byte) : (s.setReg8 r v).mode = s.mode := by
  cases r <;> rfl
@[simp] theorem setReg8_pins (s : State) (r : Reg8) (v : Byte) : (s.setReg8 r v).pins = s.pins := by
  cases r <;> rfl
@[simp] theorem setReg8_env (s : State) (r : Reg8) (v : Byte) : (s.setReg8 r v).env = s.env := by
  cases r <;> rfl
@[simp] theorem setReg8_freeIdx (s : State) (r : Reg8) (v : Byte) : (s.setReg8 r v).freeIdx = s.freeIdx := by
  cases r <;> rfl
@[simp] theorem setReg8_lateStore (s : State) (r : Reg8) (v : Byte) : (s.setReg8 r v).lateStore = s.lateStore := by
  cases r <;> rfl
@[simp] theorem setReg8_cb (s : State) (r : Reg8) (v : Byte) : (s.setReg8 r v).cb = s.cb := by
  cases r <;> rfl

@[simp] theorem setReg16_pc (s : State) (r : Reg16) (v : Word) : (s.setReg16 r v).pc = s.pc := by
  cases r <;> rfl
@[simp] theorem setReg16_runState (s : State) (r : Reg16) (v : Word) : (s.setReg16 r v).runState = s.runState := by
  cases r <;> rfl
@[simp] theorem setReg16_inhibitInt (s : State) (r : Reg16) (v : Word) : (s.setReg16 r v).inhibitInt = s.inhibitInt := by
  cases r <;> rfl
@[simp] theorem setReg16_nmiPending (s : State) (r : Reg16) (v : Word) : (s.setReg16 r v).nmiPending = s.nmiPending := by
  cases r <;> rfl
@[simp] theorem setReg16_mem (s : State) (r : Reg16) (v : Word) : (s.setReg16 r v).mem = s.mem := by
  cases r <;> rfl
@[simp] theorem setReg16_model (s : State) (r : Reg16) (v : Word) : (s.setReg16 r v).model = s.model := by
  cases r <;> rfl
@[simp] theorem setReg16_mode (s : State) (r : Reg16) (v : Word) : (s.setReg16 r v).mode = s.mode := by
  cases r <;> rfl
@[simp] theorem setReg16_pins (s : State) (r : Reg16) (v : Word) : (s.setReg16 r v).pins = s.pins := by
  cases r <;> rfl
@[simp] theorem setReg16_env (s : State) (r : Reg16) (v : Word) : (s.setReg16 r v).env = s.env := by
  cases r <;> rfl
@[simp] theorem setReg16_freeIdx (s : State) (r : Reg16) (v : Word) : (s.setReg16 r v).freeIdx = s.freeIdx := by
  cases r <;> rfl
@[simp] theorem setReg16_lateStore (s : State) (r : Reg16) (v : Word) : (s.setReg16 r v).lateStore = s.lateStore := by
  cases r <;> rfl
@[simp] theorem setReg16_cb (s : State) (r : Reg16) (v : Word) : (s.setReg16 r v).cb = s.cb := by
  cases r <;> rfl

@[simp] theorem setReg8_ix (s : State) (r : Reg8) (v : Byte) : (s.setReg8 r v).ix = s.ix := by
  cases r <;> rfl
@[simp] theorem setReg8_iy (s : State) (r : Reg8) (v : Byte) : (s.setReg8 r v).iy = s.iy := by
  cases r <;> rfl
@[simp] theorem setReg8_sp (s : State) (r : Reg8) (v : Byte) : (s.setReg8 r v).sp = s.sp := by
  cases r <;> rfl

@[simp] theorem setReg16_br (s : State) (r : Reg16) (v : Word) : (s.setReg16 r v).br = s.br := by
  cases r <;> rfl
@[simp] theorem setReg16_sc (s : State) (r : Reg16) (v : Word) : (s.setReg16 r v).sc = s.sc := by
  cases r <;> rfl
@[simp] theorem setReg16_nb (s : State) (r : Reg16) (v : Word) : (s.setReg16 r v).nb = s.nb := by
  cases r <;> rfl
@[simp] theorem setReg16_ep (s : State) (r : Reg16) (v : Word) : (s.setReg16 r v).ep = s.ep := by
  cases r <;> rfl
@[simp] theorem setReg16_xp (s : State) (r : Reg16) (v : Word) : (s.setReg16 r v).xp = s.xp := by
  cases r <;> rfl
@[simp] theorem setReg16_yp (s : State) (r : Reg16) (v : Word) : (s.setReg16 r v).yp = s.yp := by
  cases r <;> rfl

/-! ### Reading memory -/

@[simp] theorem readMem_writeMem (s : State) (a b : Nat) (v : Byte) :
    (s.writeMem a v).readMem b = if b = a then v else s.readMem b := read_write ..

@[simp] theorem readMem_push8 (s : State) (v : Byte) (b : Nat) :
    (s.push8 v).readMem b =
      if b = s.dataAddr s.pins.spp (s.sp - 1#16) then v else s.readMem b := read_write ..

/-- A read depends on the memory list alone. -/
theorem readMem_congr {s t : State} (h : t.mem = s.mem) (a : Nat) : t.readMem a = s.readMem a := by
  simp only [State.readMem, h]

/-- Address formation depends on the CPU model alone. -/
theorem dataAddr_congr {s t : State} (h : t.model = s.model) (p : Byte) (o : Word) :
    t.dataAddr p o = s.dataAddr p o := by
  unfold State.dataAddr State.hasBank
  rw [h]

theorem hasBank_congr {s t : State} (h : t.model = s.model) : t.hasBank = s.hasBank := by
  simp only [State.hasBank, h]

theorem maxMode_congr {s t : State} (h : t.model = s.model) (hm : t.mode = s.mode) :
    t.maxMode = s.maxMode := by
  unfold State.maxMode State.hasBank
  rw [h, hm]

/-- A data address lies in the physical address space (20_memory.md R60, R66). -/
theorem dataAddr_lt (s : State) (p : Byte) (o : Word) : s.dataAddr p o < s.addressSpace := by
  have hp := p.isLt
  have ho := o.isLt
  unfold State.dataAddr State.addressSpace
  split <;> omega

/-- A program address lies in the physical address space; with banks its top bit is 0 (20_memory.md R63). -/
theorem progAddr_lt (s : State) (pc : Word) : s.progAddr pc < s.addressSpace := by
  have hp := pc.isLt
  have hc := s.cb.isLt
  unfold State.progAddr State.addressSpace
  split
  · split <;> omega
  · omega

/-- Two offsets of one page have different physical addresses. -/
theorem dataAddr_inj {s : State} {p : Byte} {x y : Word} (h : s.dataAddr p x = s.dataAddr p y) : x = y := by
  unfold State.dataAddr at h
  apply BitVec.eq_of_toNat_eq
  split at h <;> omega

theorem operandAddr_ne_high (s : State) (m : MemOperand) : s.operandAddr m ≠ s.operandAddrHigh m := by
  intro h
  have := dataAddr_inj h
  have h1 := congrArg BitVec.toNat this
  rw [BitVec.toNat_add] at h1
  have := (s.operandOffset m).isLt
  simp at h1
  omega

/-! ### Views through updates -/

@[simp] theorem dataAddr_writeMem (s : State) (a : Nat) (v : Byte) (p : Byte) (o : Word) :
    (s.writeMem a v).dataAddr p o = s.dataAddr p o := rfl

@[simp] theorem dataAddr_push8 (s : State) (v : Byte) (p : Byte) (o : Word) :
    (s.push8 v).dataAddr p o = s.dataAddr p o := rfl

@[simp] theorem maxMode_push8 (s : State) (v : Byte) : (s.push8 v).maxMode = s.maxMode := rfl

@[simp] theorem hasBank_push8 (s : State) (v : Byte) : (s.push8 v).hasBank = s.hasBank := rfl

@[simp] theorem readMem_writeFlags (s : State) (f : FlagWrite) (a : Nat) :
    (s.writeFlags f).readMem a = s.readMem a := rfl

@[simp] theorem readMem_countFreeDecimal (s : State) (x y : Byte) (a : Nat) :
    (s.countFreeDecimal x y).readMem a = s.readMem a := rfl

@[simp] theorem readMem_setReg8 (s : State) (r : Reg8) (v : Byte) (a : Nat) :
    (s.setReg8 r v).readMem a = s.readMem a := by cases r <;> rfl

@[simp] theorem readMem_setReg16 (s : State) (r : Reg16) (v : Word) (a : Nat) :
    (s.setReg16 r v).readMem a = s.readMem a := by cases r <;> rfl

@[simp] theorem operandAddr_countFreeDecimal (s : State) (x y : Byte) (m : MemOperand) :
    (s.countFreeDecimal x y).operandAddr m = s.operandAddr m := by cases m <;> rfl

/-! ### Operands -/

/-- What writing an 8-bit operand does to memory: the operand's byte, or nothing. -/
theorem readMem_write8 (s : State) (o : Operand8) (v : Byte) (a : Nat) :
    (s.write8 o v).readMem a =
      match o with
      | .mem m => if a = s.operandAddr m then v else s.readMem a
      | .reg _ => s.readMem a
      | .imm _ => s.readMem a := by
  cases o with
  | reg r => exact readMem_setReg8 ..
  | imm n => rfl
  | mem m => exact readMem_writeMem ..

/-- What writing a 16-bit operand does to memory: the operand's two bytes, or nothing. -/
theorem readMem_write16 (s : State) (o : Operand16) (v : Word) (a : Nat) :
    (s.write16 o v).readMem a =
      match o with
      | .mem m =>
        if a = s.operandAddrHigh m then highByte v
        else if a = s.operandAddr m then lowByte v else s.readMem a
      | .reg _ => s.readMem a
      | .imm _ => s.readMem a
      | .pc => s.readMem a := by
  cases o with
  | reg r => exact readMem_setReg16 ..
  | imm n => rfl
  | mem m => simp only [State.write16, readMem_writeMem]
  | pc => rfl

end Sys2Proof.Laws
end

