-- ==== Sys2Proof/Laws/Ops.lean ====
section
/-! SUPPORT. What the shared operations do, once each: which parts of the state they cannot touch (`Tame`), and what the
stack, branch and exception operations do to the stack pointer, memory, PC and the banks. -/

namespace Sys2Proof.Laws

open Sys2Proof.Machine

/-! ### What no operation touches -/

/-- `t` comes from `s` with the CPU model, the mode and the inputs unchanged, and memory still in its canonical form
and address space if it was. -/
structure Tame (s t : State) : Prop where
  model : t.model = s.model
  mode : t.mode = s.mode
  pins : t.pins = s.pins
  env : t.env = s.env
  inv : s.MemoryInv → t.MemoryInv

theorem Tame.refl (s : State) : Tame s s := ⟨rfl, rfl, rfl, rfl, id⟩

theorem Tame.trans {s t u : State} (h : Tame s t) (k : Tame t u) : Tame s u :=
  ⟨k.model.trans h.model, k.mode.trans h.mode, k.pins.trans h.pins, k.env.trans h.env, k.inv ∘ h.inv⟩

/-- The invariant of memory depends on the list and on the CPU model alone. -/
theorem MemoryInv.congr {s t : State} (hm : t.mem = s.mem) (hd : t.model = s.model) (h : s.MemoryInv) :
    t.MemoryInv := by
  unfold State.MemoryInv State.addressSpace State.hasBank at *
  rwa [hm, hd]

/-- An update that leaves memory alone is tame. -/
theorem tame_of_same {s t : State} (h1 : t.model = s.model) (h2 : t.mode = s.mode) (h3 : t.pins = s.pins)
    (h4 : t.env = s.env) (h5 : t.mem = s.mem) : Tame s t :=
  ⟨h1, h2, h3, h4, MemoryInv.congr h5 h1⟩

/-- A store inside the address space keeps the invariant of memory. -/
theorem MemoryInv.write {s : State} {addr : Nat} (h : s.MemoryInv) (ha : addr < s.addressSpace) (v : Byte) :
    Memory.wf (Memory.write s.mem addr v) = true ∧
      ∀ c ∈ Memory.write s.mem addr v, c.1 < s.addressSpace := by
  refine ⟨wf_write addr v h.1, fun c hc => ?_⟩
  rcases mem_write hc with hc | hc
  · rw [hc]; exact ha
  · exact h.2 c hc

theorem tame_writeMem (s : State) {addr : Nat} (ha : addr < s.addressSpace) (v : Byte) :
    Tame s (s.writeMem addr v) :=
  ⟨rfl, rfl, rfl, rfl, fun h => MemoryInv.write h ha v⟩

theorem tame_setReg8 (s : State) (r : Reg8) (v : Byte) : Tame s (s.setReg8 r v) :=
  tame_of_same (by simp) (by simp) (by simp) (by simp) (by simp)

theorem tame_setReg16 (s : State) (r : Reg16) (v : Word) : Tame s (s.setReg16 r v) :=
  tame_of_same (by simp) (by simp) (by simp) (by simp) (by simp)

theorem tame_writeFlags (s : State) (f : FlagWrite) : Tame s (s.writeFlags f) :=
  tame_of_same rfl rfl rfl rfl rfl

theorem tame_holdInterrupts (s : State) : Tame s s.holdInterrupts := tame_of_same rfl rfl rfl rfl rfl

theorem tame_writeSC (s : State) (v : Byte) : Tame s (s.writeSC v) := tame_of_same rfl rfl rfl rfl rfl

theorem tame_countFreeDecimal (s : State) (x y : Byte) : Tame s (s.countFreeDecimal x y) :=
  tame_of_same rfl rfl rfl rfl rfl

theorem tame_drop8 (s : State) : Tame s s.drop8 := tame_of_same rfl rfl rfl rfl rfl

theorem tame_taken (s : State) : Tame s s.taken := tame_of_same rfl rfl rfl rfl rfl

theorem tame_notTaken (s : State) : Tame s s.notTaken := tame_of_same rfl rfl rfl rfl rfl

theorem tame_setPC (s : State) (w : Word) : Tame s (s.setPC w) := tame_of_same rfl rfl rfl rfl rfl

theorem tame_push8 (s : State) (v : Byte) : Tame s (s.push8 v) :=
  ⟨rfl, rfl, rfl, rfl, fun h => MemoryInv.write h (dataAddr_lt s _ _) v⟩

theorem tame_write8 (s : State) (o : Operand8) (v : Byte) : Tame s (s.write8 o v) := by
  cases o with
  | reg r => exact tame_setReg8 s r v
  | imm n => exact Tame.refl s
  | mem m => exact tame_writeMem s (dataAddr_lt s _ _) v

theorem tame_write16 (s : State) (o : Operand16) (v : Word) : Tame s (s.write16 o v) := by
  cases o with
  | reg r => exact tame_setReg16 s r v
  | imm n => exact Tame.refl s
  | mem m =>
    have h1 : s.operandAddr m < s.addressSpace := dataAddr_lt ..
    have h2 : s.operandAddrHigh m < s.addressSpace := dataAddr_lt ..
    exact Tame.trans (tame_writeMem s h1 (lowByte v)) 
      (tame_writeMem (s.writeMem (s.operandAddr m) (lowByte v)) h2 (highByte v))
  | pc => exact Tame.refl s

theorem tame_load8 (s : State) (d x : Operand8) : Tame s (s.load8 d x) := tame_write8 ..

theorem tame_load16 (s : State) (d x : Operand16) : Tame s (s.load16 d x) := tame_write16 ..

theorem tame_exchange8 (s : State) (x y : Operand8) : Tame s (s.exchange8 x y) :=
  (tame_write8 s y _).trans (tame_write8 _ x _)

theorem tame_exchange16 (s : State) (x y : Operand16) : Tame s (s.exchange16 x y) :=
  (tame_write16 s y _).trans (tame_write16 _ x _)

theorem tame_swapNibbles (s : State) (d : Operand8) : Tame s (s.swapNibbles d) := tame_write8 ..

theorem tame_arith8 (s : State) (op : ArithOp) (d x : Operand8) : Tame s (s.arith8 op d x) :=
  ((tame_countFreeDecimal s _ _).trans (tame_write8 _ d _)).trans (tame_writeFlags _ _)

theorem tame_negate8 (s : State) (d : Operand8) : Tame s (s.negate8 d) :=
  ((tame_countFreeDecimal s _ _).trans (tame_write8 _ d _)).trans (tame_writeFlags _ _)

theorem tame_compare8 (s : State) (x y : Operand8) : Tame s (s.compare8 x y) := tame_writeFlags ..

theorem tame_increment8 (s : State) (d : Operand8) : Tame s (s.increment8 d) :=
  (tame_write8 s d _).trans (tame_writeFlags _ _)

theorem tame_decrement8 (s : State) (d : Operand8) : Tame s (s.decrement8 d) :=
  (tame_write8 s d _).trans (tame_writeFlags _ _)

theorem tame_logic8 (s : State) (op : LogicOp) (d x : Operand8) : Tame s (s.logic8 op d x) :=
  (tame_write8 s d _).trans (tame_writeFlags _ _)

theorem tame_logicSC (s : State) (op : LogicOp) (nn : Byte) : Tame s (s.logicSC op nn) := tame_writeSC ..

theorem tame_testBits (s : State) (x y : Operand8) : Tame s (s.testBits x y) := tame_writeFlags ..

theorem tame_complement8 (s : State) (d : Operand8) : Tame s (s.complement8 d) :=
  (tame_write8 s d _).trans (tame_writeFlags _ _)

theorem tame_shift8 (s : State) (k : ShiftKind) (d : Operand8) : Tame s (s.shift8 k d) :=
  (tame_write8 s d _).trans (tame_writeFlags _ _)

theorem tame_pack (s : State) : Tame s s.pack := tame_of_same rfl rfl rfl rfl rfl

theorem tame_unpack (s : State) : Tame s s.unpack := tame_of_same rfl rfl rfl rfl rfl

theorem tame_signExpand (s : State) : Tame s s.signExpand := tame_of_same rfl rfl rfl rfl rfl

theorem tame_arith16 (s : State) (op : ArithOp) (d x : Operand16) : Tame s (s.arith16 op d x) :=
  (tame_write16 s d _).trans (tame_writeFlags _ _)

theorem tame_compare16 (s : State) (x y : Operand16) : Tame s (s.compare16 x y) := tame_writeFlags ..

theorem tame_increment16 (s : State) (d : Operand16) : Tame s (s.increment16 d) :=
  (tame_write16 s d _).trans (tame_writeFlags _ _)

theorem tame_decrement16 (s : State) (d : Operand16) : Tame s (s.decrement16 d) :=
  (tame_write16 s d _).trans (tame_writeFlags _ _)

theorem tame_multiply (s : State) : Tame s s.multiply :=
  (tame_setReg16 s .hl _).trans (tame_writeFlags _ _)

theorem tame_push16 (s : State) (v : Word) : Tame s (s.push16 v) :=
  (tame_push8 s _).trans (tame_push8 _ _)

theorem tame_popReg8 (s : State) (r : Reg8) : Tame s (s.popReg8 r) :=
  (tame_drop8 s).trans (tame_setReg8 _ r _)

theorem tame_drop16 (s : State) : Tame s s.drop16 := (tame_drop8 s).trans (tame_drop8 _)

theorem tame_popReg16 (s : State) (r : Reg16) : Tame s (s.popReg16 r) :=
  (tame_drop16 s).trans (tame_setReg16 _ r _)

theorem tame_pushIP (s : State) : Tame s s.pushIP := (tame_push8 s _).trans (tame_push8 _ _)

theorem tame_popIP (s : State) : Tame s s.popIP := (tame_popReg8 s _).trans (tame_popReg8 _ _)

theorem tame_pushAll (s : State) : Tame s s.pushAll :=
  ((((tame_push16 s _).trans (tame_push16 _ _)).trans (tame_push16 _ _)).trans (tame_push16 _ _)).trans
    (tame_push8 _ _)

theorem tame_popAll (s : State) : Tame s s.popAll :=
  ((((tame_popReg8 s _).trans (tame_popReg16 _ _)).trans (tame_popReg16 _ _)).trans (tame_popReg16 _ _)).trans
    (tame_popReg16 _ _)

theorem tame_pushAllExtended (s : State) : Tame s s.pushAllExtended :=
  ((tame_pushAll s).trans (tame_push8 _ _)).trans (tame_pushIP _)

theorem tame_popAllExtended (s : State) : Tame s s.popAllExtended :=
  ((tame_popIP s).trans (tame_popReg8 _ _)).trans (tame_popAll _)

theorem tame_branchTo (s : State) (w : Word) : Tame s (s.branchTo w) :=
  (tame_taken s).trans (tame_setPC _ w)

theorem tame_branchIf (s : State) (c : Bool) (w : Word) : Tame s (s.branchIf c w) := by
  cases c
  · exact tame_notTaken s
  · exact tame_branchTo s w

theorem tame_pushRet (s : State) (w : Word) : Tame s (s.pushRet w) := by
  unfold State.pushRet
  split
  · exact (tame_push8 s _).trans (tame_push16 _ _)
  · exact tame_push16 s w

theorem tame_popRet (s : State) : Tame s s.popRet := by
  have h : Tame s (s.drop16.setPC s.popped16) := (tame_drop16 s).trans (tame_setPC _ _)
  unfold State.popRet
  simp only []
  split
  · exact h.trans (tame_of_same rfl rfl rfl rfl rfl)
  · exact h

theorem tame_callTo (s : State) (w : Word) : Tame s (s.callTo w) :=
  (tame_pushRet s _).trans (tame_branchTo _ w)

theorem tame_callIf (s : State) (c : Bool) (w : Word) : Tame s (s.callIf c w) := by
  cases c
  · exact tame_notTaken s
  · exact tame_callTo s w

theorem tame_callIndirect (s : State) (w : Word) : Tame s (s.callIndirect w) :=
  (tame_pushRet s _).trans (tame_branchTo _ _)

theorem tame_decrementAndBranch (s : State) (rr : Byte) : Tame s (s.decrementAndBranch rr) :=
  (tame_decrement8 s _).trans (tame_branchIf _ _ _)

theorem tame_softwareInterrupt (s : State) (kk : Byte) : Tame s (s.softwareInterrupt kk) :=
  ((tame_pushRet s _).trans (tame_push8 _ _)).trans (tame_branchTo _ _)

theorem tame_exceptionEntry (s : State) (v : Byte) (ret : Word) (lvl : Option IntLevel) :
    Tame s (s.exceptionEntry v ret lvl) := by
  unfold State.exceptionEntry
  refine Tame.trans (Tame.trans (tame_pushRet s ret) (tame_push8 _ s.sc)) ?_
  exact tame_of_same rfl rfl rfl rfl rfl

theorem tame_exceptionReturn (s : State) : Tame s s.exceptionReturn := by
  unfold State.exceptionReturn
  refine Tame.trans (Tame.trans ?_ (tame_popRet _)) (tame_holdInterrupts _)
  exact tame_of_same rfl rfl rfl rfl rfl

theorem tame_divide (s : State) : Tame s s.divide := by
  unfold State.divide
  simp only []
  split
  · exact (tame_writeFlags s _).trans (tame_exceptionEntry _ _ _ _)
  · split
    · exact tame_writeFlags s _
    · refine Tame.trans ?_ (tame_writeFlags _ _)
      exact tame_of_same rfl rfl rfl rfl rfl

theorem tame_enterInterrupt (s : State) (lvl : IntLevel) : Tame s (s.enterInterrupt lvl) := by
  cases lvl <;> unfold State.enterInterrupt <;> simp only []
  · exact tame_exceptionEntry ..
  · exact tame_exceptionEntry ..
  · exact tame_exceptionEntry ..
  · refine Tame.trans ?_ (tame_exceptionEntry _ _ _ _)
    exact tame_of_same rfl rfl rfl rfl rfl

theorem tame_resetSequence (s : State) : Tame s s.resetSequence := tame_of_same rfl rfl rfl rfl rfl

theorem tame_advance (s : State) (n : Nat) : Tame s (s.advance n) := tame_of_same rfl rfl rfl rfl rfl

/-! ### The stack -/

/-- `Push8` (20_memory.md R75): SP goes down by 1, the byte stands at the new top, every other byte is kept. -/
theorem push8_spec (s : State) (v : Byte) :
    (s.push8 v).sp = s.sp - 1#16 ∧ (s.push8 v).readMem (s.dataAddr s.pins.spp (s.sp - 1#16)) = v ∧
      ∀ a, a ≠ s.dataAddr s.pins.spp (s.sp - 1#16) → (s.push8 v).readMem a = s.readMem a := by
  refine ⟨rfl, by simp, fun a h => ?_⟩
  rw [readMem_push8, if_neg h]

/-- `Pop8` after `Push8` gives the byte back and restores SP. -/
theorem popped8_push8 (s : State) (v : Byte) :
    (s.push8 v).popped8 = v ∧ (s.push8 v).drop8.sp = s.sp := by
  refine ⟨?_, ?_⟩
  · show (s.push8 v).readMem (s.dataAddr s.pins.spp (s.sp - 1#16)) = v
    simp
  · show s.sp - 1#16 + 1#16 = s.sp
    simp

/-- Two different distances below SP are different stack addresses. -/
theorem stackAddr_ne (s : State) {x y : Word} (h : x ≠ y) :
    s.dataAddr s.pins.spp x ≠ s.dataAddr s.pins.spp y := fun e => h (dataAddr_inj e)

/-- `Push16` (20_memory.md R76): the high byte lies above the low byte. -/
theorem push16_spec (s : State) (v : Word) :
    (s.push16 v).sp = s.sp - 2#16 ∧ (s.push16 v).readMem (s.dataAddr s.pins.spp (s.sp - 1#16)) = highByte v ∧
      (s.push16 v).readMem (s.dataAddr s.pins.spp (s.sp - 2#16)) = lowByte v ∧
      ∀ a, a ≠ s.dataAddr s.pins.spp (s.sp - 1#16) → a ≠ s.dataAddr s.pins.spp (s.sp - 2#16) →
        (s.push16 v).readMem a = s.readMem a := by
  have e : s.sp - 1#16 - 1#16 = s.sp - 2#16 := by bv_omega
  have n : s.dataAddr s.pins.spp (s.sp - 1#16) ≠ s.dataAddr s.pins.spp (s.sp - 2#16) :=
    stackAddr_ne s (by bv_omega)
  have m : ∀ a, (s.push16 v).readMem a = if a = s.dataAddr s.pins.spp (s.sp - 2#16) then lowByte v
      else if a = s.dataAddr s.pins.spp (s.sp - 1#16) then highByte v else s.readMem a := fun a => by
    simp only [State.push16, readMem_push8, push8_sp, push8_pins, dataAddr_push8, e]
  refine ⟨?_, ?_, ?_, fun a h1 h2 => ?_⟩
  · simp only [State.push16, push8_sp, e]
  · rw [m, if_neg n, if_pos rfl]
  · rw [m, if_pos rfl]
  · rw [m, if_neg h2, if_neg h1]

/-! ### Branches, calls, exceptions -/

/-- A taken branch (48_branch.md R542): PC is the target, CB is NB where there are banks. -/
theorem branchTo_spec (s : State) (w : Word) :
    (s.branchTo w).pc = w ∧ (s.branchTo w).cb = (if s.hasBank then s.nb else s.cb) ∧
      (s.branchTo w).nb = s.nb := ⟨rfl, rfl, rfl⟩

/-- `PushRet` (48_branch.md R543) keeps every register but SP. -/
theorem pushRet_spec (s : State) (w : Word) :
    (s.pushRet w).sp = s.sp - (if s.maxMode then 3#16 else 2#16) ∧ (s.pushRet w).pc = s.pc ∧
      (s.pushRet w).sc = s.sc ∧ (s.pushRet w).cb = s.cb ∧ (s.pushRet w).nb = s.nb := by
  unfold State.pushRet
  split
  · refine ⟨?_, rfl, rfl, rfl, rfl⟩
    show s.sp - 1#16 - 1#16 - 1#16 = _
    bv_omega
  · refine ⟨?_, rfl, rfl, rfl, rfl⟩
    show s.sp - 1#16 - 1#16 = _
    bv_omega

/-- `ExceptionEntry` (60_exceptions.md R620): the mask, the vector, the run state; NB and CB are kept. -/
theorem exceptionEntry_spec (s : State) (v : Byte) (ret : Word) (lvl : Option IntLevel) :
    (s.exceptionEntry v ret lvl).pc = ((s.pushRet ret).push8 s.sc).vector v ∧
      (s.exceptionEntry v ret lvl).sp = (s.pushRet ret).sp - 1#16 ∧
      (s.exceptionEntry v ret lvl).mem = ((s.pushRet ret).push8 s.sc).mem ∧
      (s.exceptionEntry v ret lvl).runState = .running ∧
      (s.exceptionEntry v ret lvl).inhibitInt = false ∧
      (s.exceptionEntry v ret lvl).sc =
        (match lvl with
          | none => s.sc
          | some l => maskInto s.sc (acceptedMask l)) ∧
      (s.exceptionEntry v ret lvl).nb = s.nb ∧ (s.exceptionEntry v ret lvl).cb = s.cb := by
  have h := pushRet_spec s ret
  refine ⟨rfl, rfl, rfl, rfl, rfl, ?_, h.2.2.2.2, h.2.2.2.1⟩
  cases lvl
  · exact h.2.2.1
  · exact congrArg (fun x => maskInto x _) h.2.2.1

end Sys2Proof.Laws
end

