-- ==== Sys2Proof/Laws/Frames.lean ====
section
/-! SUPPORT. What the shared operations change and what they keep, in the words of the statements: one lemma per
operation that says all of it. -/

namespace Sys2Proof.Laws

open Sys2Proof.Machine Sys2Proof.Claims

/-! ### Frames compose -/

theorem keepsRegs_refl (l : List RegByte) (s : State) : KeepsRegs l s s := fun _ _ => rfl

theorem keepsRegs_trans {l : List RegByte} {s t u : State} (h : KeepsRegs l s t) (k : KeepsRegs l t u) :
    KeepsRegs l s u := fun r hr => (k r hr).trans (h r hr)

theorem keepsRegs_mono {l m : List RegByte} {s t : State} (h : KeepsRegs l s t) (k : ∀ r, r ∈ l → r ∈ m) :
    KeepsRegs m s t := fun r hr => h r fun hl => hr (k r hl)

theorem keepsMem_of_mem {s t : State} (h : t.mem = s.mem) : KeepsMem [] s t := fun a _ => readMem_congr h a

/-! ### Writing an operand, writing flags -/

/-- Whether an operand is one that the 8-bit arithmetic and logic write to: not an immediate, not SC. -/
def isTarget : Operand8 → Bool
  | .reg .sc => false
  | .reg .a | .reg .b | .reg .l | .reg .h | .reg .br | .reg .nb | .reg .ep | .reg .xp | .reg .yp => true
  | .imm _ => false
  | .mem _ => true

theorem write8_frame (s : State) {d : Operand8} (v : Byte) (h : ∀ n, d ≠ .imm n) :
    Writes8 d v [] s (s.write8 d v) ∧ KeepsControl s (s.write8 d v) := by
  cases d with
  | imm n => exact absurd rfl (h n)
  | reg r =>
    refine ⟨⟨reg8_setReg8_same s r v, ?_, fun a _ => readMem_setReg8 s r v a⟩, ?_⟩
    · intro q hq
      cases r <;> cases q <;> first | rfl | simp [byteOf] at hq
    · cases r <;> exact ⟨rfl, rfl, rfl, rfl, rfl, rfl, rfl, rfl⟩
  | mem m =>
    refine ⟨⟨by simp [State.write8], ?_, ?_⟩, rfl, rfl, rfl, rfl, rfl, rfl, rfl, rfl⟩
    · intro q _
      cases q <;> rfl
    · intro a ha
      simp only [List.mem_singleton] at ha
      simp [State.write8, ha]

theorem setReg16_frame (s : State) (r : Reg16) (v : Word) :
    WritesReg16 r v [] s (s.setReg16 r v) ∧ KeepsControl s (s.setReg16 r v) := by
  refine ⟨⟨reg16_setReg16_same s r v, ?_, fun a _ => readMem_setReg16 s r v a⟩, ?_⟩
  · intro q hq
    cases r <;> cases q <;> first | rfl | simp [bytesOf] at hq
  · cases r <;> exact ⟨rfl, rfl, rfl, rfl, rfl, rfl, rfl, rfl⟩

theorem write16_mem_frame (s : State) (m : MemOperand) (v : Word) :
    (s.write16 (.mem m) v).readMem (s.operandAddr m) = lowByte v ∧
      (s.write16 (.mem m) v).readMem (s.operandAddrHigh m) = highByte v ∧
      KeepsRegs [] s (s.write16 (.mem m) v) ∧
      KeepsMem [s.operandAddr m, s.operandAddrHigh m] s (s.write16 (.mem m) v) ∧
      KeepsControl s (s.write16 (.mem m) v) := by
  have n := operandAddr_ne_high s m
  refine ⟨by rw [readMem_write16]; simp [n], by rw [readMem_write16]; simp, ?_, ?_, rfl, rfl, rfl, rfl, rfl, rfl,
    rfl, rfl⟩
  · intro q _
    cases q <;> rfl
  · intro a ha
    simp only [List.mem_cons, List.not_mem_nil, or_false, not_or] at ha
    rw [readMem_write16]
    simp [ha]

theorem writeFlags_frame (s : State) (f : FlagWrite) :
    Flags (f.n.getD s.flagN) (f.v.getD s.flagV) (f.c.getD s.flagC) (f.z.getD s.flagZ) s (s.writeFlags f) ∧
      KeepsRegs [.sc] s (s.writeFlags f) ∧ KeepsMem [] s (s.writeFlags f) ∧ KeepsControl s (s.writeFlags f) := by
  refine ⟨⟨writeFlags_flagN s f, writeFlags_flagV s f, writeFlags_flagC s f, writeFlags_flagZ s f,
    flagsInto_high s.sc f⟩, ?_, fun _ _ => rfl, rfl, rfl, rfl, rfl, rfl, rfl, rfl, rfl⟩
  intro q hq
  cases q <;> first | rfl | simp at hq

/-- An 8-bit result written to its destination and then its flags, from `s` or from `s` with another count of free
values: the shape of the 8-bit arithmetic, logic and shifts. -/
theorem write8_writeFlags_frame (s : State) (n : Nat) {d : Operand8} (v : Byte) (f : FlagWrite)
    (h : isTarget d = true) :
    Writes8 d v [.sc] s (({ s with freeIdx := n }.write8 d v).writeFlags f) ∧
      Flags (f.n.getD s.flagN) (f.v.getD s.flagV) (f.c.getD s.flagC) (f.z.getD s.flagZ) s
        (({ s with freeIdx := n }.write8 d v).writeFlags f) ∧
      KeepsControl s (({ s with freeIdx := n }.write8 d v).writeFlags f) := by
  have e : ({ s with freeIdx := n }.write8 d v).sc = s.sc := by
    cases d with
    | imm => rfl
    | reg r => cases r <;> first | rfl | simp [isTarget] at h
    | mem m => rfl
  have k := flagsInto_high ({ s with freeIdx := n }.write8 d v).sc f
  have fl := writeFlags_frame ({ s with freeIdx := n }.write8 d v) f
  simp only [Flags, State.flagN, State.flagV, State.flagC, State.flagZ, KeepsModeBits, e] at fl
  refine ⟨?_, ?_, ?_⟩
  · cases d with
    | imm => simp [isTarget] at h
    | reg r =>
      refine ⟨?_, ?_, ?_⟩
      · cases r <;> first | rfl | simp [isTarget] at h
      · intro q hq
        cases r <;> cases q <;> first | rfl | simp [byteOf] at hq
      · intro a _
        cases r <;> rfl
    | mem m =>
      have em : ({ s with freeIdx := n } : State).operandAddr m = s.operandAddr m := by cases m <;> rfl
      refine ⟨?_, ?_, ?_⟩
      · simp [State.write8, em]
      · intro q hq
        cases q <;> first | rfl | simp at hq
      · intro a ha
        simp only [List.mem_singleton] at ha
        simp only [readMem_writeFlags, State.write8, readMem_writeMem, em, if_neg ha]
        rfl
  · exact ⟨fl.1.1, fl.1.2.1, fl.1.2.2.1, fl.1.2.2.2.1, fl.1.2.2.2.2⟩
  · cases d with
    | imm => simp [isTarget] at h
    | reg r => cases r <;> exact ⟨rfl, rfl, rfl, rfl, rfl, rfl, rfl, rfl⟩
    | mem m => exact ⟨rfl, rfl, rfl, rfl, rfl, rfl, rfl, rfl⟩

/-- A 16-bit result written to a register and then its flags: the shape of the 16-bit arithmetic. -/
theorem setReg16_writeFlags_frame (s : State) (d : Reg16) (v : Word) (f : FlagWrite) :
    WritesReg16 d v [.sc] s ((s.setReg16 d v).writeFlags f) ∧
      Flags (f.n.getD s.flagN) (f.v.getD s.flagV) (f.c.getD s.flagC) (f.z.getD s.flagZ) s
        ((s.setReg16 d v).writeFlags f) ∧
      KeepsControl s ((s.setReg16 d v).writeFlags f) := by
  have fl := writeFlags_frame (s.setReg16 d v) f
  simp only [Flags, State.flagN, State.flagV, State.flagC, State.flagZ, KeepsModeBits, setReg16_sc] at fl
  refine ⟨⟨?_, ?_, ?_⟩, ⟨fl.1.1, fl.1.2.1, fl.1.2.2.1, fl.1.2.2.2.1, fl.1.2.2.2.2⟩, ?_⟩
  · show (s.setReg16 d v).reg16 d = v
    exact reg16_setReg16_same s d v
  · intro q hq
    cases d <;> cases q <;> first | rfl | simp [bytesOf] at hq
  · intro a _
    simp
  · cases d <;> exact ⟨rfl, rfl, rfl, rfl, rfl, rfl, rfl, rfl⟩

/-! ### Pushing -/

/-- Everything but SP and memory. -/
structure KeepsButStack (s t : State) : Prop where
  regs : KeepsRegs [.spHigh, .spLow] s t
  control : KeepsControl s t

theorem KeepsButStack.trans {s t u : State} (h : KeepsButStack s t) (k : KeepsButStack t u) : KeepsButStack s u := by
  refine ⟨keepsRegs_trans h.regs k.regs, ?_⟩
  obtain ⟨a1, a2, a3, a4, a5, a6, a7, a8⟩ := h.control
  obtain ⟨b1, b2, b3, b4, b5, b6, b7, b8⟩ := k.control
  exact ⟨b1.trans a1, b2.trans a2, b3.trans a3, b4.trans a4, b5.trans a5, b6.trans a6, b7.trans a7, b8.trans a8⟩

theorem KeepsButStack.pins {s t : State} (h : KeepsButStack s t) : t.pins = s.pins :=
  h.control.2.2.2.2.2.2.1

theorem KeepsButStack.model {s t : State} (h : KeepsButStack s t) : t.model = s.model :=
  h.control.2.2.2.2.1

/-- `Push8` for each byte in turn. -/
def pushBytes : State → List Byte → State
  | s, [] => s
  | s, v :: rest => pushBytes (s.push8 v) rest

theorem pushBytes_append (s : State) (l : List Byte) (v : Byte) :
    pushBytes s (l ++ [v]) = (pushBytes s l).push8 v := by
  induction l generalizing s with
  | nil => rfl
  | cons a r ih => exact ih _

theorem push8_keeps (s : State) (v : Byte) : KeepsButStack s (s.push8 v) := by
  refine ⟨?_, rfl, rfl, rfl, rfl, rfl, rfl, rfl, rfl⟩
  intro q hq
  cases q <;> first | rfl | simp at hq

theorem pushBytes_keeps (s : State) (l : List Byte) : KeepsButStack s (pushBytes s l) := by
  induction l generalizing s with
  | nil => exact ⟨keepsRegs_refl _ s, rfl, rfl, rfl, rfl, rfl, rfl, rfl, rfl⟩
  | cons a r ih => exact (push8_keeps s a).trans (ih _)

theorem belowSP_ne (s : State) {j k : Nat} (h : j ≠ k) (hj : j < 65536) (hk : k < 65536) :
    belowSP s j ≠ belowSP s k := by
  intro e
  have e2 := dataAddr_inj e
  have e3 : BitVec.ofNat 16 j = BitVec.ofNat 16 k := by bv_omega
  have e4 := congrArg BitVec.toNat e3
  simp only [BitVec.toNat_ofNat] at e4
  omega

theorem pushed_append {s t : State} {bs : List Byte} (v : Byte) (h : Pushed bs s t) (hl : bs.length < 65000)
    (hp : t.pins = s.pins) (hm : t.model = s.model) : Pushed (bs ++ [v]) s (t.push8 v) := by
  obtain ⟨h1, h2, h3⟩ := h
  have ea : t.dataAddr t.pins.spp (t.sp - 1#16) = belowSP s (bs.length + 1) := by
    rw [dataAddr_congr hm, hp, h1]
    unfold belowSP
    congr 1
    apply BitVec.eq_of_toNat_eq
    simp
    omega
  have rd : ∀ a, (t.push8 v).readMem a = if a = belowSP s (bs.length + 1) then v else t.readMem a := fun a => by
    rw [readMem_push8, ea]
  refine ⟨?_, ?_, ?_⟩
  · show t.sp - 1#16 = _
    rw [h1]
    apply BitVec.eq_of_toNat_eq
    simp
    omega
  · intro k hk
    simp only [List.length_append, List.length_singleton] at hk
    rw [rd]
    by_cases e : k = bs.length
    · subst e
      simp
    · rw [if_neg (belowSP_ne s (by omega) (by omega) (by omega)), List.getElem?_append_left (by omega)]
      exact h2 k (by omega)
  · intro a ha
    simp only [List.length_append, List.length_singleton, List.mem_map, List.mem_range, not_exists, not_and] at ha
    rw [rd, if_neg (fun e => ha bs.length (by omega) e.symm)]
    apply h3
    simp only [List.mem_map, List.mem_range, not_exists, not_and]
    exact fun x hx => ha x (by omega)

/-- What pushing bytes does to SP and to memory. -/
theorem pushBytes_pushed (s : State) (l : List Byte) (h : l.length < 65000) : Pushed l s (pushBytes s l) := by
  induction l using List.reverseRecOn with
  | nil => exact ⟨by simp [pushBytes], by simp, fun _ _ => rfl⟩
  | append_singleton l v ih =>
    rw [pushBytes_append]
    have k := pushBytes_keeps s l
    simp only [List.length_append, List.length_singleton] at h
    exact pushed_append v (ih (by omega)) (by omega) k.pins k.model

theorem push16_eq (s : State) (w : Word) : s.push16 w = pushBytes s [highByte w, lowByte w] := rfl

theorem pushRet_eq (s : State) (w : Word) : s.pushRet w = pushBytes s (returnInfo s w) := by
  unfold State.pushRet returnInfo
  split <;> rfl

theorem returnInfo_length (s : State) (w : Word) : (returnInfo s w).length = 2 + s.maxMode.toNat := by
  unfold returnInfo
  cases s.maxMode <;> rfl

/-! ### Popping -/

theorem popped8_eq (s : State) : s.popped8 = stackByte s 0 := by
  simp [State.popped8, stackByte, State.stackAddr]

theorem stackByte_drop8 (s : State) (k : Nat) : stackByte s.drop8 k = stackByte s (k + 1) := by
  unfold stackByte
  show s.readMem (s.dataAddr s.pins.spp (s.sp + 1#16 + BitVec.ofNat 16 k)) = _
  congr 2
  apply BitVec.eq_of_toNat_eq
  simp
  omega

theorem stackByte_congr {s t : State} (h1 : t.mem = s.mem) (h2 : t.model = s.model) (h3 : t.pins = s.pins)
    (h4 : t.sp = s.sp) (k : Nat) : stackByte t k = stackByte s k := by
  unfold stackByte
  rw [readMem_congr h1, dataAddr_congr h2, h3, h4]

theorem popped16_eq (s : State) : s.popped16 = word16 (stackByte s 1) (stackByte s 0) := by
  simp [State.popped16, popped8_eq, stackByte_drop8]

/-- A byte that was pushed is the byte found above the new SP. -/
theorem pushed_stackByte {bs : List Byte} {s t : State} (h : Pushed bs s t) (hp : t.pins = s.pins)
    (hm : t.model = s.model) (hl : bs.length < 65000) (k : Nat) (hk : k < bs.length) :
    some (stackByte t k) = bs[bs.length - 1 - k]? := by
  rw [← h.2.1 (bs.length - 1 - k) (by omega)]
  congr 1
  unfold stackByte belowSP
  rw [hp, dataAddr_congr hm, h.1]
  congr 2
  apply BitVec.eq_of_toNat_eq
  simp
  omega

theorem regByte_popReg8 (s : State) (r : Reg8) (q : RegByte) (h : q ≠ .spHigh ∧ q ≠ .spLow) :
    regByte (s.popReg8 r) q = if q = byteOf r then stackByte s 0 else regByte s q := by
  cases r <;> cases q <;>
    first | exact absurd rfl h.1 | exact absurd rfl h.2 | rfl | exact popped8_eq s

theorem popReg16_spec (s : State) (r : Reg16) : (s.popReg16 r).reg16 r = word16 (stackByte s 1) (stackByte s 0) := by
  rw [State.popReg16, reg16_setReg16_same, popped16_eq]

/-- `PopRet()` (48_branch.md R543). -/
theorem popRet_frame (s : State) :
    s.popRet.pc = word16 (stackByte s 1) (stackByte s 0) ∧
      s.popRet.sp = s.sp + BitVec.ofNat 16 (2 + s.maxMode.toNat) ∧
      (s.maxMode = true → s.popRet.cb = stackByte s 2 ∧ s.popRet.nb = stackByte s 2) ∧
      (s.maxMode = false → s.popRet.cb = s.cb ∧ s.popRet.nb = s.nb) ∧ s.popRet.sc = s.sc ∧
      KeepsRegs [.nb, .cb, .spHigh, .spLow] s s.popRet ∧ s.popRet.mem = s.mem ∧
      Control s.runState s.inhibitInt s s.popRet := by
  have e := popped16_eq s
  have hm : (s.drop16.setPC s.popped16).maxMode = s.maxMode := rfl
  unfold State.popRet
  simp only [hm]
  cases h : s.maxMode
  all_goals simp only [if_true, Bool.false_eq_true, if_false]
  · refine ⟨e, ?_, (fun h => h.elim), fun _ => ⟨rfl, rfl⟩, rfl, ?_, rfl, rfl, rfl, rfl, rfl, rfl, rfl, rfl⟩
    · show s.sp + 1#16 + 1#16 = _
      simp
      bv_omega
    · intro q hq
      cases q <;> first | simp at hq; done | rfl
  · refine ⟨e, ?_, ?_, ?_, ?_, ?_, ?_, ?_⟩
    · show s.sp + 1#16 + 1#16 + 1#16 = _
      simp
      bv_omega
    · intro _
      have k : (s.drop16.setPC s.popped16).popped8 = stackByte s 2 := by
        rw [popped8_eq, stackByte_congr (s := s.drop16) (t := s.drop16.setPC s.popped16) rfl rfl rfl rfl,
          State.drop16, stackByte_drop8, stackByte_drop8]
      exact ⟨k, k⟩
    · intro h
      simp at h
    · rfl
    · intro q hq
      cases q <;> first | simp at hq; done | simp [regByte, State.drop16]
    · simp [State.drop16]
    · simp [Control, State.drop16]

/-! ### The flags of a subtraction without borrow -/

theorem subBin_res {w : Nat} (x y : BitVec w) : (subBin x y false).res = x - y := by
  show BitVec.ofInt w ((x.toNat : Int) - y.toNat - (false.toNat : Nat)) = _
  apply BitVec.eq_of_toInt_eq
  rw [BitVec.toInt_ofInt, BitVec.toInt_sub]
  simp [BitVec.toInt_eq_toNat_bmod]

theorem subBin_c {w : Nat} (x y : BitVec w) : (subBin x y false).c = decide (x.toNat < y.toNat) := by
  simp [subBin]

/-! ### Where a step goes -/

/-- The four actions at a boundary and when each is taken (60_exceptions.md R603). -/
theorem boundaryAction_cases (s : State) :
    (s.pins.reset = true ∧ s.boundaryAction = .reset) ∨
      (s.pins.reset = false ∧ s.boundaryAction = .wait ∧ s.runState ≠ .running ∧ s.pick = none) ∨
      (s.pins.reset = false ∧ s.boundaryAction = .execute ∧ s.runState = .running ∧
        (s.inhibitInt = true ∨ s.pick = none)) ∨
      (s.pins.reset = false ∧ ∃ lvl, s.boundaryAction = .enter lvl ∧ s.pick = some lvl ∧
        (s.runState = .running → s.inhibitInt = false)) := by
  unfold State.boundaryAction
  cases hr : s.pins.reset <;> simp
  by_cases hrun : s.runState = .running <;> simp [hrun] <;> cases hp : s.pick <;> simp

/-- Sampling the inputs changes the inputs and the pending NMI alone. -/
theorem sample_spec (s : State) :
    s.sample.model = s.model ∧ s.sample.mode = s.mode ∧ s.sample.mem = s.mem ∧ s.sample.runState = s.runState ∧
      s.sample.inhibitInt = s.inhibitInt ∧ s.sample.pc = s.pc ∧ KeepsRegs [] s s.sample := by
  unfold State.sample
  split
  · exact ⟨rfl, rfl, rfl, rfl, rfl, rfl, fun q _ => by cases q <;> rfl⟩
  · exact ⟨rfl, rfl, rfl, rfl, rfl, rfl, fun q _ => by cases q <;> rfl⟩

end Sys2Proof.Laws
end

