-- ==== Sys2Proof/Laws/PerInstr.lean ====
section
/-! SUPPORT. Statements about every instruction as syntax, one lemma per constructor. -/

namespace Sys2Proof.Laws.EncodedLength

/-- An instruction is 1 to 4 bytes long (30_encoding.md R100). -/
def Statement (i : Instr) : Prop := 1 ≤ (encode i).length ∧ (encode i).length ≤ 4

/-- The two bounds from two computations. -/
theorem of_bounds {i : Instr} (h : Nat.ble 1 (encode i).length = true) (k : Nat.ble (encode i).length 4 = true) :
    Statement i := ⟨Nat.le_of_ble_eq_true h, Nat.le_of_ble_eq_true k⟩

theorem ldA_A : Statement .ldA_A := of_bounds rfl rfl
theorem ldA_B : Statement .ldA_B := of_bounds rfl rfl
theorem ldA_L : Statement .ldA_L := of_bounds rfl rfl
theorem ldA_H : Statement .ldA_H := of_bounds rfl rfl
theorem ldB_A : Statement .ldB_A := of_bounds rfl rfl
theorem ldB_B : Statement .ldB_B := of_bounds rfl rfl
theorem ldB_L : Statement .ldB_L := of_bounds rfl rfl
theorem ldB_H : Statement .ldB_H := of_bounds rfl rfl
theorem ldL_A : Statement .ldL_A := of_bounds rfl rfl
theorem ldL_B : Statement .ldL_B := of_bounds rfl rfl
theorem ldL_L : Statement .ldL_L := of_bounds rfl rfl
theorem ldL_H : Statement .ldL_H := of_bounds rfl rfl
theorem ldH_A : Statement .ldH_A := of_bounds rfl rfl
theorem ldH_B : Statement .ldH_B := of_bounds rfl rfl
theorem ldH_L : Statement .ldH_L := of_bounds rfl rfl
theorem ldH_H : Statement .ldH_H := of_bounds rfl rfl
theorem ldA_BR : Statement .ldA_BR := of_bounds rfl rfl
theorem ldA_SC : Statement .ldA_SC := of_bounds rfl rfl
theorem ldBR_A : Statement .ldBR_A := of_bounds rfl rfl
theorem ldSC_A : Statement .ldSC_A := of_bounds rfl rfl
theorem ldNB_imm (bb : Byte) : Statement (.ldNB_imm bb) := of_bounds rfl rfl
theorem ldEP_imm (pp : Byte) : Statement (.ldEP_imm pp) := of_bounds rfl rfl
theorem ldXP_imm (pp : Byte) : Statement (.ldXP_imm pp) := of_bounds rfl rfl
theorem ldYP_imm (pp : Byte) : Statement (.ldYP_imm pp) := of_bounds rfl rfl
theorem ldA_NB : Statement .ldA_NB := of_bounds rfl rfl
theorem ldA_EP : Statement .ldA_EP := of_bounds rfl rfl
theorem ldA_XP : Statement .ldA_XP := of_bounds rfl rfl
theorem ldA_YP : Statement .ldA_YP := of_bounds rfl rfl
theorem ldNB_A : Statement .ldNB_A := of_bounds rfl rfl
theorem ldEP_A : Statement .ldEP_A := of_bounds rfl rfl
theorem ldXP_A : Statement .ldXP_A := of_bounds rfl rfl
theorem ldYP_A : Statement .ldYP_A := of_bounds rfl rfl
theorem ldA_imm (nn : Byte) : Statement (.ldA_imm nn) := of_bounds rfl rfl
theorem ldB_imm (nn : Byte) : Statement (.ldB_imm nn) := of_bounds rfl rfl
theorem ldL_imm (nn : Byte) : Statement (.ldL_imm nn) := of_bounds rfl rfl
theorem ldH_imm (nn : Byte) : Statement (.ldH_imm nn) := of_bounds rfl rfl
theorem ldBR_imm (hh : Byte) : Statement (.ldBR_imm hh) := of_bounds rfl rfl
theorem ldSC_imm (nn : Byte) : Statement (.ldSC_imm nn) := of_bounds rfl rfl
theorem ldA_atBRll (ll : Byte) : Statement (.ldA_atBRll ll) := of_bounds rfl rfl
theorem ldB_atBRll (ll : Byte) : Statement (.ldB_atBRll ll) := of_bounds rfl rfl
theorem ldL_atBRll (ll : Byte) : Statement (.ldL_atBRll ll) := of_bounds rfl rfl
theorem ldH_atBRll (ll : Byte) : Statement (.ldH_atBRll ll) := of_bounds rfl rfl
theorem ldA_athhll (hhll : Word) : Statement (.ldA_athhll hhll) := of_bounds rfl rfl
theorem ldB_athhll (hhll : Word) : Statement (.ldB_athhll hhll) := of_bounds rfl rfl
theorem ldL_athhll (hhll : Word) : Statement (.ldL_athhll hhll) := of_bounds rfl rfl
theorem ldH_athhll (hhll : Word) : Statement (.ldH_athhll hhll) := of_bounds rfl rfl
theorem ldA_atHL : Statement .ldA_atHL := of_bounds rfl rfl
theorem ldB_atHL : Statement .ldB_atHL := of_bounds rfl rfl
theorem ldL_atHL : Statement .ldL_atHL := of_bounds rfl rfl
theorem ldH_atHL : Statement .ldH_atHL := of_bounds rfl rfl
theorem ldA_atIX : Statement .ldA_atIX := of_bounds rfl rfl
theorem ldB_atIX : Statement .ldB_atIX := of_bounds rfl rfl
theorem ldL_atIX : Statement .ldL_atIX := of_bounds rfl rfl
theorem ldH_atIX : Statement .ldH_atIX := of_bounds rfl rfl
theorem ldA_atIY : Statement .ldA_atIY := of_bounds rfl rfl
theorem ldB_atIY : Statement .ldB_atIY := of_bounds rfl rfl
theorem ldL_atIY : Statement .ldL_atIY := of_bounds rfl rfl
theorem ldH_atIY : Statement .ldH_atIY := of_bounds rfl rfl
theorem ldA_atIXdd (dd : Byte) : Statement (.ldA_atIXdd dd) := of_bounds rfl rfl
theorem ldB_atIXdd (dd : Byte) : Statement (.ldB_atIXdd dd) := of_bounds rfl rfl
theorem ldL_atIXdd (dd : Byte) : Statement (.ldL_atIXdd dd) := of_bounds rfl rfl
theorem ldH_atIXdd (dd : Byte) : Statement (.ldH_atIXdd dd) := of_bounds rfl rfl
theorem ldA_atIYdd (dd : Byte) : Statement (.ldA_atIYdd dd) := of_bounds rfl rfl
theorem ldB_atIYdd (dd : Byte) : Statement (.ldB_atIYdd dd) := of_bounds rfl rfl
theorem ldL_atIYdd (dd : Byte) : Statement (.ldL_atIYdd dd) := of_bounds rfl rfl
theorem ldH_atIYdd (dd : Byte) : Statement (.ldH_atIYdd dd) := of_bounds rfl rfl
theorem ldA_atIXL : Statement .ldA_atIXL := of_bounds rfl rfl
theorem ldB_atIXL : Statement .ldB_atIXL := of_bounds rfl rfl
theorem ldL_atIXL : Statement .ldL_atIXL := of_bounds rfl rfl
theorem ldH_atIXL : Statement .ldH_atIXL := of_bounds rfl rfl
theorem ldA_atIYL : Statement .ldA_atIYL := of_bounds rfl rfl
theorem ldB_atIYL : Statement .ldB_atIYL := of_bounds rfl rfl
theorem ldL_atIYL : Statement .ldL_atIYL := of_bounds rfl rfl
theorem ldH_atIYL : Statement .ldH_atIYL := of_bounds rfl rfl
theorem ld_atBRll_A (ll : Byte) : Statement (.ld_atBRll_A ll) := of_bounds rfl rfl
theorem ld_atBRll_B (ll : Byte) : Statement (.ld_atBRll_B ll) := of_bounds rfl rfl
theorem ld_atBRll_L (ll : Byte) : Statement (.ld_atBRll_L ll) := of_bounds rfl rfl
theorem ld_atBRll_H (ll : Byte) : Statement (.ld_atBRll_H ll) := of_bounds rfl rfl
theorem ld_athhll_A (hhll : Word) : Statement (.ld_athhll_A hhll) := of_bounds rfl rfl
theorem ld_athhll_B (hhll : Word) : Statement (.ld_athhll_B hhll) := of_bounds rfl rfl
theorem ld_athhll_L (hhll : Word) : Statement (.ld_athhll_L hhll) := of_bounds rfl rfl
theorem ld_athhll_H (hhll : Word) : Statement (.ld_athhll_H hhll) := of_bounds rfl rfl
theorem ld_atHL_A : Statement .ld_atHL_A := of_bounds rfl rfl
theorem ld_atHL_B : Statement .ld_atHL_B := of_bounds rfl rfl
theorem ld_atHL_L : Statement .ld_atHL_L := of_bounds rfl rfl
theorem ld_atHL_H : Statement .ld_atHL_H := of_bounds rfl rfl
theorem ld_atIX_A : Statement .ld_atIX_A := of_bounds rfl rfl
theorem ld_atIX_B : Statement .ld_atIX_B := of_bounds rfl rfl
theorem ld_atIX_L : Statement .ld_atIX_L := of_bounds rfl rfl
theorem ld_atIX_H : Statement .ld_atIX_H := of_bounds rfl rfl
theorem ld_atIY_A : Statement .ld_atIY_A := of_bounds rfl rfl
theorem ld_atIY_B : Statement .ld_atIY_B := of_bounds rfl rfl
theorem ld_atIY_L : Statement .ld_atIY_L := of_bounds rfl rfl
theorem ld_atIY_H : Statement .ld_atIY_H := of_bounds rfl rfl
theorem ld_atIXdd_A (dd : Byte) : Statement (.ld_atIXdd_A dd) := of_bounds rfl rfl
theorem ld_atIXdd_B (dd : Byte) : Statement (.ld_atIXdd_B dd) := of_bounds rfl rfl
theorem ld_atIXdd_L (dd : Byte) : Statement (.ld_atIXdd_L dd) := of_bounds rfl rfl
theorem ld_atIXdd_H (dd : Byte) : Statement (.ld_atIXdd_H dd) := of_bounds rfl rfl
theorem ld_atIYdd_A (dd : Byte) : Statement (.ld_atIYdd_A dd) := of_bounds rfl rfl
theorem ld_atIYdd_B (dd : Byte) : Statement (.ld_atIYdd_B dd) := of_bounds rfl rfl
theorem ld_atIYdd_L (dd : Byte) : Statement (.ld_atIYdd_L dd) := of_bounds rfl rfl
theorem ld_atIYdd_H (dd : Byte) : Statement (.ld_atIYdd_H dd) := of_bounds rfl rfl
theorem ld_atIXL_A : Statement .ld_atIXL_A := of_bounds rfl rfl
theorem ld_atIXL_B : Statement .ld_atIXL_B := of_bounds rfl rfl
theorem ld_atIXL_L : Statement .ld_atIXL_L := of_bounds rfl rfl
theorem ld_atIXL_H : Statement .ld_atIXL_H := of_bounds rfl rfl
theorem ld_atIYL_A : Statement .ld_atIYL_A := of_bounds rfl rfl
theorem ld_atIYL_B : Statement .ld_atIYL_B := of_bounds rfl rfl
theorem ld_atIYL_L : Statement .ld_atIYL_L := of_bounds rfl rfl
theorem ld_atIYL_H : Statement .ld_atIYL_H := of_bounds rfl rfl
theorem ld_atBRll_imm (ll : Byte) (nn : Byte) : Statement (.ld_atBRll_imm ll nn) := of_bounds rfl rfl
theorem ld_atHL_imm (nn : Byte) : Statement (.ld_atHL_imm nn) := of_bounds rfl rfl
theorem ld_atIX_imm (nn : Byte) : Statement (.ld_atIX_imm nn) := of_bounds rfl rfl
theorem ld_atIY_imm (nn : Byte) : Statement (.ld_atIY_imm nn) := of_bounds rfl rfl
theorem ld_atBRll_atHL (ll : Byte) : Statement (.ld_atBRll_atHL ll) := of_bounds rfl rfl
theorem ld_atBRll_atIX (ll : Byte) : Statement (.ld_atBRll_atIX ll) := of_bounds rfl rfl
theorem ld_atBRll_atIY (ll : Byte) : Statement (.ld_atBRll_atIY ll) := of_bounds rfl rfl
theorem ld_atHL_atBRll (ll : Byte) : Statement (.ld_atHL_atBRll ll) := of_bounds rfl rfl
theorem ld_atHL_atHL : Statement .ld_atHL_atHL := of_bounds rfl rfl
theorem ld_atHL_atIX : Statement .ld_atHL_atIX := of_bounds rfl rfl
theorem ld_atHL_atIY : Statement .ld_atHL_atIY := of_bounds rfl rfl
theorem ld_atHL_atIXdd (dd : Byte) : Statement (.ld_atHL_atIXdd dd) := of_bounds rfl rfl
theorem ld_atHL_atIYdd (dd : Byte) : Statement (.ld_atHL_atIYdd dd) := of_bounds rfl rfl
theorem ld_atHL_atIXL : Statement .ld_atHL_atIXL := of_bounds rfl rfl
theorem ld_atHL_atIYL : Statement .ld_atHL_atIYL := of_bounds rfl rfl
theorem ld_atIX_atBRll (ll : Byte) : Statement (.ld_atIX_atBRll ll) := of_bounds rfl rfl
theorem ld_atIX_atHL : Statement .ld_atIX_atHL := of_bounds rfl rfl
theorem ld_atIX_atIX : Statement .ld_atIX_atIX := of_bounds rfl rfl
theorem ld_atIX_atIY : Statement .ld_atIX_atIY := of_bounds rfl rfl
theorem ld_atIX_atIXdd (dd : Byte) : Statement (.ld_atIX_atIXdd dd) := of_bounds rfl rfl
theorem ld_atIX_atIYdd (dd : Byte) : Statement (.ld_atIX_atIYdd dd) := of_bounds rfl rfl
theorem ld_atIX_atIXL : Statement .ld_atIX_atIXL := of_bounds rfl rfl
theorem ld_atIX_atIYL : Statement .ld_atIX_atIYL := of_bounds rfl rfl
theorem ld_atIY_atBRll (ll : Byte) : Statement (.ld_atIY_atBRll ll) := of_bounds rfl rfl
theorem ld_atIY_atHL : Statement .ld_atIY_atHL := of_bounds rfl rfl
theorem ld_atIY_atIX : Statement .ld_atIY_atIX := of_bounds rfl rfl
theorem ld_atIY_atIY : Statement .ld_atIY_atIY := of_bounds rfl rfl
theorem ld_atIY_atIXdd (dd : Byte) : Statement (.ld_atIY_atIXdd dd) := of_bounds rfl rfl
theorem ld_atIY_atIYdd (dd : Byte) : Statement (.ld_atIY_atIYdd dd) := of_bounds rfl rfl
theorem ld_atIY_atIXL : Statement .ld_atIY_atIXL := of_bounds rfl rfl
theorem ld_atIY_atIYL : Statement .ld_atIY_atIYL := of_bounds rfl rfl
theorem exA_B : Statement .exA_B := of_bounds rfl rfl
theorem exA_atHL : Statement .exA_atHL := of_bounds rfl rfl
theorem swapA : Statement .swapA := of_bounds rfl rfl
theorem swap_atHL : Statement .swap_atHL := of_bounds rfl rfl
theorem ldBA_BA : Statement .ldBA_BA := of_bounds rfl rfl
theorem ldBA_HL : Statement .ldBA_HL := of_bounds rfl rfl
theorem ldBA_IX : Statement .ldBA_IX := of_bounds rfl rfl
theorem ldBA_IY : Statement .ldBA_IY := of_bounds rfl rfl
theorem ldHL_BA : Statement .ldHL_BA := of_bounds rfl rfl
theorem ldHL_HL : Statement .ldHL_HL := of_bounds rfl rfl
theorem ldHL_IX : Statement .ldHL_IX := of_bounds rfl rfl
theorem ldHL_IY : Statement .ldHL_IY := of_bounds rfl rfl
theorem ldIX_BA : Statement .ldIX_BA := of_bounds rfl rfl
theorem ldIX_HL : Statement .ldIX_HL := of_bounds rfl rfl
theorem ldIX_IX : Statement .ldIX_IX := of_bounds rfl rfl
theorem ldIX_IY : Statement .ldIX_IY := of_bounds rfl rfl
theorem ldIY_BA : Statement .ldIY_BA := of_bounds rfl rfl
theorem ldIY_HL : Statement .ldIY_HL := of_bounds rfl rfl
theorem ldIY_IX : Statement .ldIY_IX := of_bounds rfl rfl
theorem ldIY_IY : Statement .ldIY_IY := of_bounds rfl rfl
theorem ldBA_PC : Statement .ldBA_PC := of_bounds rfl rfl
theorem ldBA_SP : Statement .ldBA_SP := of_bounds rfl rfl
theorem ldHL_PC : Statement .ldHL_PC := of_bounds rfl rfl
theorem ldHL_SP : Statement .ldHL_SP := of_bounds rfl rfl
theorem ldIX_SP : Statement .ldIX_SP := of_bounds rfl rfl
theorem ldIY_SP : Statement .ldIY_SP := of_bounds rfl rfl
theorem ldSP_BA : Statement .ldSP_BA := of_bounds rfl rfl
theorem ldSP_HL : Statement .ldSP_HL := of_bounds rfl rfl
theorem ldSP_IX : Statement .ldSP_IX := of_bounds rfl rfl
theorem ldSP_IY : Statement .ldSP_IY := of_bounds rfl rfl
theorem ldBA_imm (mmnn : Word) : Statement (.ldBA_imm mmnn) := of_bounds rfl rfl
theorem ldHL_imm (mmnn : Word) : Statement (.ldHL_imm mmnn) := of_bounds rfl rfl
theorem ldIX_imm (mmnn : Word) : Statement (.ldIX_imm mmnn) := of_bounds rfl rfl
theorem ldIY_imm (mmnn : Word) : Statement (.ldIY_imm mmnn) := of_bounds rfl rfl
theorem ldSP_imm (mmnn : Word) : Statement (.ldSP_imm mmnn) := of_bounds rfl rfl
theorem ldBA_athhll (hhll : Word) : Statement (.ldBA_athhll hhll) := of_bounds rfl rfl
theorem ldHL_athhll (hhll : Word) : Statement (.ldHL_athhll hhll) := of_bounds rfl rfl
theorem ldIX_athhll (hhll : Word) : Statement (.ldIX_athhll hhll) := of_bounds rfl rfl
theorem ldIY_athhll (hhll : Word) : Statement (.ldIY_athhll hhll) := of_bounds rfl rfl
theorem ldSP_athhll (hhll : Word) : Statement (.ldSP_athhll hhll) := of_bounds rfl rfl
theorem ldBA_atHL : Statement .ldBA_atHL := of_bounds rfl rfl
theorem ldHL_atHL : Statement .ldHL_atHL := of_bounds rfl rfl
theorem ldIX_atHL : Statement .ldIX_atHL := of_bounds rfl rfl
theorem ldIY_atHL : Statement .ldIY_atHL := of_bounds rfl rfl
theorem ldBA_atIX : Statement .ldBA_atIX := of_bounds rfl rfl
theorem ldHL_atIX : Statement .ldHL_atIX := of_bounds rfl rfl
theorem ldIX_atIX : Statement .ldIX_atIX := of_bounds rfl rfl
theorem ldIY_atIX : Statement .ldIY_atIX := of_bounds rfl rfl
theorem ldBA_atIY : Statement .ldBA_atIY := of_bounds rfl rfl
theorem ldHL_atIY : Statement .ldHL_atIY := of_bounds rfl rfl
theorem ldIX_atIY : Statement .ldIX_atIY := of_bounds rfl rfl
theorem ldIY_atIY : Statement .ldIY_atIY := of_bounds rfl rfl
theorem ldBA_atSPdd (dd : Byte) : Statement (.ldBA_atSPdd dd) := of_bounds rfl rfl
theorem ldHL_atSPdd (dd : Byte) : Statement (.ldHL_atSPdd dd) := of_bounds rfl rfl
theorem ldIX_atSPdd (dd : Byte) : Statement (.ldIX_atSPdd dd) := of_bounds rfl rfl
theorem ldIY_atSPdd (dd : Byte) : Statement (.ldIY_atSPdd dd) := of_bounds rfl rfl
theorem ld_athhll_BA (hhll : Word) : Statement (.ld_athhll_BA hhll) := of_bounds rfl rfl
theorem ld_athhll_HL (hhll : Word) : Statement (.ld_athhll_HL hhll) := of_bounds rfl rfl
theorem ld_athhll_IX (hhll : Word) : Statement (.ld_athhll_IX hhll) := of_bounds rfl rfl
theorem ld_athhll_IY (hhll : Word) : Statement (.ld_athhll_IY hhll) := of_bounds rfl rfl
theorem ld_athhll_SP (hhll : Word) : Statement (.ld_athhll_SP hhll) := of_bounds rfl rfl
theorem ld_atHL_BA : Statement .ld_atHL_BA := of_bounds rfl rfl
theorem ld_atHL_HL : Statement .ld_atHL_HL := of_bounds rfl rfl
theorem ld_atHL_IX : Statement .ld_atHL_IX := of_bounds rfl rfl
theorem ld_atHL_IY : Statement .ld_atHL_IY := of_bounds rfl rfl
theorem ld_atIX_BA : Statement .ld_atIX_BA := of_bounds rfl rfl
theorem ld_atIX_HL : Statement .ld_atIX_HL := of_bounds rfl rfl
theorem ld_atIX_IX : Statement .ld_atIX_IX := of_bounds rfl rfl
theorem ld_atIX_IY : Statement .ld_atIX_IY := of_bounds rfl rfl
theorem ld_atIY_BA : Statement .ld_atIY_BA := of_bounds rfl rfl
theorem ld_atIY_HL : Statement .ld_atIY_HL := of_bounds rfl rfl
theorem ld_atIY_IX : Statement .ld_atIY_IX := of_bounds rfl rfl
theorem ld_atIY_IY : Statement .ld_atIY_IY := of_bounds rfl rfl
theorem ld_atSPdd_BA (dd : Byte) : Statement (.ld_atSPdd_BA dd) := of_bounds rfl rfl
theorem ld_atSPdd_HL (dd : Byte) : Statement (.ld_atSPdd_HL dd) := of_bounds rfl rfl
theorem ld_atSPdd_IX (dd : Byte) : Statement (.ld_atSPdd_IX dd) := of_bounds rfl rfl
theorem ld_atSPdd_IY (dd : Byte) : Statement (.ld_atSPdd_IY dd) := of_bounds rfl rfl
theorem exBA_HL : Statement .exBA_HL := of_bounds rfl rfl
theorem exBA_IX : Statement .exBA_IX := of_bounds rfl rfl
theorem exBA_IY : Statement .exBA_IY := of_bounds rfl rfl
theorem exBA_SP : Statement .exBA_SP := of_bounds rfl rfl
theorem addA_A : Statement .addA_A := of_bounds rfl rfl
theorem addA_B : Statement .addA_B := of_bounds rfl rfl
theorem addA_imm (nn : Byte) : Statement (.addA_imm nn) := of_bounds rfl rfl
theorem addA_atBRll (ll : Byte) : Statement (.addA_atBRll ll) := of_bounds rfl rfl
theorem addA_athhll (hhll : Word) : Statement (.addA_athhll hhll) := of_bounds rfl rfl
theorem addA_atHL : Statement .addA_atHL := of_bounds rfl rfl
theorem addA_atIX : Statement .addA_atIX := of_bounds rfl rfl
theorem addA_atIY : Statement .addA_atIY := of_bounds rfl rfl
theorem addA_atIXdd (dd : Byte) : Statement (.addA_atIXdd dd) := of_bounds rfl rfl
theorem addA_atIYdd (dd : Byte) : Statement (.addA_atIYdd dd) := of_bounds rfl rfl
theorem addA_atIXL : Statement .addA_atIXL := of_bounds rfl rfl
theorem addA_atIYL : Statement .addA_atIYL := of_bounds rfl rfl
theorem add_atHL_A : Statement .add_atHL_A := of_bounds rfl rfl
theorem add_atHL_imm (nn : Byte) : Statement (.add_atHL_imm nn) := of_bounds rfl rfl
theorem add_atHL_atIX : Statement .add_atHL_atIX := of_bounds rfl rfl
theorem add_atHL_atIY : Statement .add_atHL_atIY := of_bounds rfl rfl
theorem adcA_A : Statement .adcA_A := of_bounds rfl rfl
theorem adcA_B : Statement .adcA_B := of_bounds rfl rfl
theorem adcA_imm (nn : Byte) : Statement (.adcA_imm nn) := of_bounds rfl rfl
theorem adcA_atBRll (ll : Byte) : Statement (.adcA_atBRll ll) := of_bounds rfl rfl
theorem adcA_athhll (hhll : Word) : Statement (.adcA_athhll hhll) := of_bounds rfl rfl
theorem adcA_atHL : Statement .adcA_atHL := of_bounds rfl rfl
theorem adcA_atIX : Statement .adcA_atIX := of_bounds rfl rfl
theorem adcA_atIY : Statement .adcA_atIY := of_bounds rfl rfl
theorem adcA_atIXdd (dd : Byte) : Statement (.adcA_atIXdd dd) := of_bounds rfl rfl
theorem adcA_atIYdd (dd : Byte) : Statement (.adcA_atIYdd dd) := of_bounds rfl rfl
theorem adcA_atIXL : Statement .adcA_atIXL := of_bounds rfl rfl
theorem adcA_atIYL : Statement .adcA_atIYL := of_bounds rfl rfl
theorem adc_atHL_A : Statement .adc_atHL_A := of_bounds rfl rfl
theorem adc_atHL_imm (nn : Byte) : Statement (.adc_atHL_imm nn) := of_bounds rfl rfl
theorem adc_atHL_atIX : Statement .adc_atHL_atIX := of_bounds rfl rfl
theorem adc_atHL_atIY : Statement .adc_atHL_atIY := of_bounds rfl rfl
theorem subA_A : Statement .subA_A := of_bounds rfl rfl
theorem subA_B : Statement .subA_B := of_bounds rfl rfl
theorem subA_imm (nn : Byte) : Statement (.subA_imm nn) := of_bounds rfl rfl
theorem subA_atBRll (ll : Byte) : Statement (.subA_atBRll ll) := of_bounds rfl rfl
theorem subA_athhll (hhll : Word) : Statement (.subA_athhll hhll) := of_bounds rfl rfl
theorem subA_atHL : Statement .subA_atHL := of_bounds rfl rfl
theorem subA_atIX : Statement .subA_atIX := of_bounds rfl rfl
theorem subA_atIY : Statement .subA_atIY := of_bounds rfl rfl
theorem subA_atIXdd (dd : Byte) : Statement (.subA_atIXdd dd) := of_bounds rfl rfl
theorem subA_atIYdd (dd : Byte) : Statement (.subA_atIYdd dd) := of_bounds rfl rfl
theorem subA_atIXL : Statement .subA_atIXL := of_bounds rfl rfl
theorem subA_atIYL : Statement .subA_atIYL := of_bounds rfl rfl
theorem sub_atHL_A : Statement .sub_atHL_A := of_bounds rfl rfl
theorem sub_atHL_imm (nn : Byte) : Statement (.sub_atHL_imm nn) := of_bounds rfl rfl
theorem sub_atHL_atIX : Statement .sub_atHL_atIX := of_bounds rfl rfl
theorem sub_atHL_atIY : Statement .sub_atHL_atIY := of_bounds rfl rfl
theorem sbcA_A : Statement .sbcA_A := of_bounds rfl rfl
theorem sbcA_B : Statement .sbcA_B := of_bounds rfl rfl
theorem sbcA_imm (nn : Byte) : Statement (.sbcA_imm nn) := of_bounds rfl rfl
theorem sbcA_atBRll (ll : Byte) : Statement (.sbcA_atBRll ll) := of_bounds rfl rfl
theorem sbcA_athhll (hhll : Word) : Statement (.sbcA_athhll hhll) := of_bounds rfl rfl
theorem sbcA_atHL : Statement .sbcA_atHL := of_bounds rfl rfl
theorem sbcA_atIX : Statement .sbcA_atIX := of_bounds rfl rfl
theorem sbcA_atIY : Statement .sbcA_atIY := of_bounds rfl rfl
theorem sbcA_atIXdd (dd : Byte) : Statement (.sbcA_atIXdd dd) := of_bounds rfl rfl
theorem sbcA_atIYdd (dd : Byte) : Statement (.sbcA_atIYdd dd) := of_bounds rfl rfl
theorem sbcA_atIXL : Statement .sbcA_atIXL := of_bounds rfl rfl
theorem sbcA_atIYL : Statement .sbcA_atIYL := of_bounds rfl rfl
theorem sbc_atHL_A : Statement .sbc_atHL_A := of_bounds rfl rfl
theorem sbc_atHL_imm (nn : Byte) : Statement (.sbc_atHL_imm nn) := of_bounds rfl rfl
theorem sbc_atHL_atIX : Statement .sbc_atHL_atIX := of_bounds rfl rfl
theorem sbc_atHL_atIY : Statement .sbc_atHL_atIY := of_bounds rfl rfl
theorem cpA_A : Statement .cpA_A := of_bounds rfl rfl
theorem cpA_B : Statement .cpA_B := of_bounds rfl rfl
theorem cpA_imm (nn : Byte) : Statement (.cpA_imm nn) := of_bounds rfl rfl
theorem cpA_atBRll (ll : Byte) : Statement (.cpA_atBRll ll) := of_bounds rfl rfl
theorem cpA_athhll (hhll : Word) : Statement (.cpA_athhll hhll) := of_bounds rfl rfl
theorem cpA_atHL : Statement .cpA_atHL := of_bounds rfl rfl
theorem cpA_atIX : Statement .cpA_atIX := of_bounds rfl rfl
theorem cpA_atIY : Statement .cpA_atIY := of_bounds rfl rfl
theorem cpA_atIXdd (dd : Byte) : Statement (.cpA_atIXdd dd) := of_bounds rfl rfl
theorem cpA_atIYdd (dd : Byte) : Statement (.cpA_atIYdd dd) := of_bounds rfl rfl
theorem cpA_atIXL : Statement .cpA_atIXL := of_bounds rfl rfl
theorem cpA_atIYL : Statement .cpA_atIYL := of_bounds rfl rfl
theorem cpB_imm (nn : Byte) : Statement (.cpB_imm nn) := of_bounds rfl rfl
theorem cpL_imm (nn : Byte) : Statement (.cpL_imm nn) := of_bounds rfl rfl
theorem cpH_imm (nn : Byte) : Statement (.cpH_imm nn) := of_bounds rfl rfl
theorem cpBR_imm (hh : Byte) : Statement (.cpBR_imm hh) := of_bounds rfl rfl
theorem cp_atBRll_imm (ll : Byte) (nn : Byte) : Statement (.cp_atBRll_imm ll nn) := of_bounds rfl rfl
theorem cp_atHL_A : Statement .cp_atHL_A := of_bounds rfl rfl
theorem cp_atHL_imm (nn : Byte) : Statement (.cp_atHL_imm nn) := of_bounds rfl rfl
theorem cp_atHL_atIX : Statement .cp_atHL_atIX := of_bounds rfl rfl
theorem cp_atHL_atIY : Statement .cp_atHL_atIY := of_bounds rfl rfl
theorem incA : Statement .incA := of_bounds rfl rfl
theorem incB : Statement .incB := of_bounds rfl rfl
theorem incL : Statement .incL := of_bounds rfl rfl
theorem incH : Statement .incH := of_bounds rfl rfl
theorem incBR : Statement .incBR := of_bounds rfl rfl
theorem inc_atBRll (ll : Byte) : Statement (.inc_atBRll ll) := of_bounds rfl rfl
theorem inc_atHL : Statement .inc_atHL := of_bounds rfl rfl
theorem decA : Statement .decA := of_bounds rfl rfl
theorem decB : Statement .decB := of_bounds rfl rfl
theorem decL : Statement .decL := of_bounds rfl rfl
theorem decH : Statement .decH := of_bounds rfl rfl
theorem decBR : Statement .decBR := of_bounds rfl rfl
theorem dec_atBRll (ll : Byte) : Statement (.dec_atBRll ll) := of_bounds rfl rfl
theorem dec_atHL : Statement .dec_atHL := of_bounds rfl rfl
theorem negA : Statement .negA := of_bounds rfl rfl
theorem negB : Statement .negB := of_bounds rfl rfl
theorem neg_atBRll (ll : Byte) : Statement (.neg_atBRll ll) := of_bounds rfl rfl
theorem neg_atHL : Statement .neg_atHL := of_bounds rfl rfl
theorem mlt : Statement .mlt := of_bounds rfl rfl
theorem div : Statement .div := of_bounds rfl rfl
theorem andA_A : Statement .andA_A := of_bounds rfl rfl
theorem andA_B : Statement .andA_B := of_bounds rfl rfl
theorem andA_imm (nn : Byte) : Statement (.andA_imm nn) := of_bounds rfl rfl
theorem andA_atBRll (ll : Byte) : Statement (.andA_atBRll ll) := of_bounds rfl rfl
theorem andA_athhll (hhll : Word) : Statement (.andA_athhll hhll) := of_bounds rfl rfl
theorem andA_atHL : Statement .andA_atHL := of_bounds rfl rfl
theorem andA_atIX : Statement .andA_atIX := of_bounds rfl rfl
theorem andA_atIY : Statement .andA_atIY := of_bounds rfl rfl
theorem andA_atIXdd (dd : Byte) : Statement (.andA_atIXdd dd) := of_bounds rfl rfl
theorem andA_atIYdd (dd : Byte) : Statement (.andA_atIYdd dd) := of_bounds rfl rfl
theorem andA_atIXL : Statement .andA_atIXL := of_bounds rfl rfl
theorem andA_atIYL : Statement .andA_atIYL := of_bounds rfl rfl
theorem andB_imm (nn : Byte) : Statement (.andB_imm nn) := of_bounds rfl rfl
theorem andL_imm (nn : Byte) : Statement (.andL_imm nn) := of_bounds rfl rfl
theorem andH_imm (nn : Byte) : Statement (.andH_imm nn) := of_bounds rfl rfl
theorem andSC_imm (nn : Byte) : Statement (.andSC_imm nn) := of_bounds rfl rfl
theorem and_atBRll_imm (ll : Byte) (nn : Byte) : Statement (.and_atBRll_imm ll nn) := of_bounds rfl rfl
theorem and_atHL_A : Statement .and_atHL_A := of_bounds rfl rfl
theorem and_atHL_imm (nn : Byte) : Statement (.and_atHL_imm nn) := of_bounds rfl rfl
theorem and_atHL_atIX : Statement .and_atHL_atIX := of_bounds rfl rfl
theorem and_atHL_atIY : Statement .and_atHL_atIY := of_bounds rfl rfl
theorem orA_A : Statement .orA_A := of_bounds rfl rfl
theorem orA_B : Statement .orA_B := of_bounds rfl rfl
theorem orA_imm (nn : Byte) : Statement (.orA_imm nn) := of_bounds rfl rfl
theorem orA_atBRll (ll : Byte) : Statement (.orA_atBRll ll) := of_bounds rfl rfl
theorem orA_athhll (hhll : Word) : Statement (.orA_athhll hhll) := of_bounds rfl rfl
theorem orA_atHL : Statement .orA_atHL := of_bounds rfl rfl
theorem orA_atIX : Statement .orA_atIX := of_bounds rfl rfl
theorem orA_atIY : Statement .orA_atIY := of_bounds rfl rfl
theorem orA_atIXdd (dd : Byte) : Statement (.orA_atIXdd dd) := of_bounds rfl rfl
theorem orA_atIYdd (dd : Byte) : Statement (.orA_atIYdd dd) := of_bounds rfl rfl
theorem orA_atIXL : Statement .orA_atIXL := of_bounds rfl rfl
theorem orA_atIYL : Statement .orA_atIYL := of_bounds rfl rfl
theorem orB_imm (nn : Byte) : Statement (.orB_imm nn) := of_bounds rfl rfl
theorem orL_imm (nn : Byte) : Statement (.orL_imm nn) := of_bounds rfl rfl
theorem orH_imm (nn : Byte) : Statement (.orH_imm nn) := of_bounds rfl rfl
theorem orSC_imm (nn : Byte) : Statement (.orSC_imm nn) := of_bounds rfl rfl
theorem or_atBRll_imm (ll : Byte) (nn : Byte) : Statement (.or_atBRll_imm ll nn) := of_bounds rfl rfl
theorem or_atHL_A : Statement .or_atHL_A := of_bounds rfl rfl
theorem or_atHL_imm (nn : Byte) : Statement (.or_atHL_imm nn) := of_bounds rfl rfl
theorem or_atHL_atIX : Statement .or_atHL_atIX := of_bounds rfl rfl
theorem or_atHL_atIY : Statement .or_atHL_atIY := of_bounds rfl rfl
theorem xorA_A : Statement .xorA_A := of_bounds rfl rfl
theorem xorA_B : Statement .xorA_B := of_bounds rfl rfl
theorem xorA_imm (nn : Byte) : Statement (.xorA_imm nn) := of_bounds rfl rfl
theorem xorA_atBRll (ll : Byte) : Statement (.xorA_atBRll ll) := of_bounds rfl rfl
theorem xorA_athhll (hhll : Word) : Statement (.xorA_athhll hhll) := of_bounds rfl rfl
theorem xorA_atHL : Statement .xorA_atHL := of_bounds rfl rfl
theorem xorA_atIX : Statement .xorA_atIX := of_bounds rfl rfl
theorem xorA_atIY : Statement .xorA_atIY := of_bounds rfl rfl
theorem xorA_atIXdd (dd : Byte) : Statement (.xorA_atIXdd dd) := of_bounds rfl rfl
theorem xorA_atIYdd (dd : Byte) : Statement (.xorA_atIYdd dd) := of_bounds rfl rfl
theorem xorA_atIXL : Statement .xorA_atIXL := of_bounds rfl rfl
theorem xorA_atIYL : Statement .xorA_atIYL := of_bounds rfl rfl
theorem xorB_imm (nn : Byte) : Statement (.xorB_imm nn) := of_bounds rfl rfl
theorem xorL_imm (nn : Byte) : Statement (.xorL_imm nn) := of_bounds rfl rfl
theorem xorH_imm (nn : Byte) : Statement (.xorH_imm nn) := of_bounds rfl rfl
theorem xorSC_imm (nn : Byte) : Statement (.xorSC_imm nn) := of_bounds rfl rfl
theorem xor_atBRll_imm (ll : Byte) (nn : Byte) : Statement (.xor_atBRll_imm ll nn) := of_bounds rfl rfl
theorem xor_atHL_A : Statement .xor_atHL_A := of_bounds rfl rfl
theorem xor_atHL_imm (nn : Byte) : Statement (.xor_atHL_imm nn) := of_bounds rfl rfl
theorem xor_atHL_atIX : Statement .xor_atHL_atIX := of_bounds rfl rfl
theorem xor_atHL_atIY : Statement .xor_atHL_atIY := of_bounds rfl rfl
theorem bitA_B : Statement .bitA_B := of_bounds rfl rfl
theorem bitA_imm (nn : Byte) : Statement (.bitA_imm nn) := of_bounds rfl rfl
theorem bitB_imm (nn : Byte) : Statement (.bitB_imm nn) := of_bounds rfl rfl
theorem bit_atBRll_imm (ll : Byte) (nn : Byte) : Statement (.bit_atBRll_imm ll nn) := of_bounds rfl rfl
theorem bit_atHL_imm (nn : Byte) : Statement (.bit_atHL_imm nn) := of_bounds rfl rfl
theorem cplA : Statement .cplA := of_bounds rfl rfl
theorem cplB : Statement .cplB := of_bounds rfl rfl
theorem cpl_atBRll (ll : Byte) : Statement (.cpl_atBRll ll) := of_bounds rfl rfl
theorem cpl_atHL : Statement .cpl_atHL := of_bounds rfl rfl
theorem addBA_BA : Statement .addBA_BA := of_bounds rfl rfl
theorem addBA_HL : Statement .addBA_HL := of_bounds rfl rfl
theorem addBA_IX : Statement .addBA_IX := of_bounds rfl rfl
theorem addBA_IY : Statement .addBA_IY := of_bounds rfl rfl
theorem addHL_BA : Statement .addHL_BA := of_bounds rfl rfl
theorem addHL_HL : Statement .addHL_HL := of_bounds rfl rfl
theorem addHL_IX : Statement .addHL_IX := of_bounds rfl rfl
theorem addHL_IY : Statement .addHL_IY := of_bounds rfl rfl
theorem adcBA_BA : Statement .adcBA_BA := of_bounds rfl rfl
theorem adcBA_HL : Statement .adcBA_HL := of_bounds rfl rfl
theorem adcBA_IX : Statement .adcBA_IX := of_bounds rfl rfl
theorem adcBA_IY : Statement .adcBA_IY := of_bounds rfl rfl
theorem adcHL_BA : Statement .adcHL_BA := of_bounds rfl rfl
theorem adcHL_HL : Statement .adcHL_HL := of_bounds rfl rfl
theorem adcHL_IX : Statement .adcHL_IX := of_bounds rfl rfl
theorem adcHL_IY : Statement .adcHL_IY := of_bounds rfl rfl
theorem subBA_BA : Statement .subBA_BA := of_bounds rfl rfl
theorem subBA_HL : Statement .subBA_HL := of_bounds rfl rfl
theorem subBA_IX : Statement .subBA_IX := of_bounds rfl rfl
theorem subBA_IY : Statement .subBA_IY := of_bounds rfl rfl
theorem subHL_BA : Statement .subHL_BA := of_bounds rfl rfl
theorem subHL_HL : Statement .subHL_HL := of_bounds rfl rfl
theorem subHL_IX : Statement .subHL_IX := of_bounds rfl rfl
theorem subHL_IY : Statement .subHL_IY := of_bounds rfl rfl
theorem sbcBA_BA : Statement .sbcBA_BA := of_bounds rfl rfl
theorem sbcBA_HL : Statement .sbcBA_HL := of_bounds rfl rfl
theorem sbcBA_IX : Statement .sbcBA_IX := of_bounds rfl rfl
theorem sbcBA_IY : Statement .sbcBA_IY := of_bounds rfl rfl
theorem sbcHL_BA : Statement .sbcHL_BA := of_bounds rfl rfl
theorem sbcHL_HL : Statement .sbcHL_HL := of_bounds rfl rfl
theorem sbcHL_IX : Statement .sbcHL_IX := of_bounds rfl rfl
theorem sbcHL_IY : Statement .sbcHL_IY := of_bounds rfl rfl
theorem cpBA_BA : Statement .cpBA_BA := of_bounds rfl rfl
theorem cpBA_HL : Statement .cpBA_HL := of_bounds rfl rfl
theorem cpBA_IX : Statement .cpBA_IX := of_bounds rfl rfl
theorem cpBA_IY : Statement .cpBA_IY := of_bounds rfl rfl
theorem cpHL_BA : Statement .cpHL_BA := of_bounds rfl rfl
theorem cpHL_HL : Statement .cpHL_HL := of_bounds rfl rfl
theorem cpHL_IX : Statement .cpHL_IX := of_bounds rfl rfl
theorem cpHL_IY : Statement .cpHL_IY := of_bounds rfl rfl
theorem addIX_BA : Statement .addIX_BA := of_bounds rfl rfl
theorem addIX_HL : Statement .addIX_HL := of_bounds rfl rfl
theorem addIY_BA : Statement .addIY_BA := of_bounds rfl rfl
theorem addIY_HL : Statement .addIY_HL := of_bounds rfl rfl
theorem addSP_BA : Statement .addSP_BA := of_bounds rfl rfl
theorem addSP_HL : Statement .addSP_HL := of_bounds rfl rfl
theorem subIX_BA : Statement .subIX_BA := of_bounds rfl rfl
theorem subIX_HL : Statement .subIX_HL := of_bounds rfl rfl
theorem subIY_BA : Statement .subIY_BA := of_bounds rfl rfl
theorem subIY_HL : Statement .subIY_HL := of_bounds rfl rfl
theorem subSP_BA : Statement .subSP_BA := of_bounds rfl rfl
theorem subSP_HL : Statement .subSP_HL := of_bounds rfl rfl
theorem cpSP_BA : Statement .cpSP_BA := of_bounds rfl rfl
theorem cpSP_HL : Statement .cpSP_HL := of_bounds rfl rfl
theorem addBA_imm (mmnn : Word) : Statement (.addBA_imm mmnn) := of_bounds rfl rfl
theorem addHL_imm (mmnn : Word) : Statement (.addHL_imm mmnn) := of_bounds rfl rfl
theorem addIX_imm (mmnn : Word) : Statement (.addIX_imm mmnn) := of_bounds rfl rfl
theorem addIY_imm (mmnn : Word) : Statement (.addIY_imm mmnn) := of_bounds rfl rfl
theorem subBA_imm (mmnn : Word) : Statement (.subBA_imm mmnn) := of_bounds rfl rfl
theorem subHL_imm (mmnn : Word) : Statement (.subHL_imm mmnn) := of_bounds rfl rfl
theorem subIX_imm (mmnn : Word) : Statement (.subIX_imm mmnn) := of_bounds rfl rfl
theorem subIY_imm (mmnn : Word) : Statement (.subIY_imm mmnn) := of_bounds rfl rfl
theorem cpBA_imm (mmnn : Word) : Statement (.cpBA_imm mmnn) := of_bounds rfl rfl
theorem cpHL_imm (mmnn : Word) : Statement (.cpHL_imm mmnn) := of_bounds rfl rfl
theorem cpIX_imm (mmnn : Word) : Statement (.cpIX_imm mmnn) := of_bounds rfl rfl
theorem cpIY_imm (mmnn : Word) : Statement (.cpIY_imm mmnn) := of_bounds rfl rfl
theorem adcBA_imm (mmnn : Word) : Statement (.adcBA_imm mmnn) := of_bounds rfl rfl
theorem adcHL_imm (mmnn : Word) : Statement (.adcHL_imm mmnn) := of_bounds rfl rfl
theorem sbcBA_imm (mmnn : Word) : Statement (.sbcBA_imm mmnn) := of_bounds rfl rfl
theorem sbcHL_imm (mmnn : Word) : Statement (.sbcHL_imm mmnn) := of_bounds rfl rfl
theorem addSP_imm (mmnn : Word) : Statement (.addSP_imm mmnn) := of_bounds rfl rfl
theorem subSP_imm (mmnn : Word) : Statement (.subSP_imm mmnn) := of_bounds rfl rfl
theorem cpSP_imm (mmnn : Word) : Statement (.cpSP_imm mmnn) := of_bounds rfl rfl
theorem incBA : Statement .incBA := of_bounds rfl rfl
theorem incHL : Statement .incHL := of_bounds rfl rfl
theorem incIX : Statement .incIX := of_bounds rfl rfl
theorem incIY : Statement .incIY := of_bounds rfl rfl
theorem incSP : Statement .incSP := of_bounds rfl rfl
theorem decBA : Statement .decBA := of_bounds rfl rfl
theorem decHL : Statement .decHL := of_bounds rfl rfl
theorem decIX : Statement .decIX := of_bounds rfl rfl
theorem decIY : Statement .decIY := of_bounds rfl rfl
theorem decSP : Statement .decSP := of_bounds rfl rfl
theorem pack : Statement .pack := of_bounds rfl rfl
theorem upck : Statement .upck := of_bounds rfl rfl
theorem sep : Statement .sep := of_bounds rfl rfl
theorem rlA : Statement .rlA := of_bounds rfl rfl
theorem rlB : Statement .rlB := of_bounds rfl rfl
theorem rl_atBRll (ll : Byte) : Statement (.rl_atBRll ll) := of_bounds rfl rfl
theorem rl_atHL : Statement .rl_atHL := of_bounds rfl rfl
theorem rlcA : Statement .rlcA := of_bounds rfl rfl
theorem rlcB : Statement .rlcB := of_bounds rfl rfl
theorem rlc_atBRll (ll : Byte) : Statement (.rlc_atBRll ll) := of_bounds rfl rfl
theorem rlc_atHL : Statement .rlc_atHL := of_bounds rfl rfl
theorem rrA : Statement .rrA := of_bounds rfl rfl
theorem rrB : Statement .rrB := of_bounds rfl rfl
theorem rr_atBRll (ll : Byte) : Statement (.rr_atBRll ll) := of_bounds rfl rfl
theorem rr_atHL : Statement .rr_atHL := of_bounds rfl rfl
theorem rrcA : Statement .rrcA := of_bounds rfl rfl
theorem rrcB : Statement .rrcB := of_bounds rfl rfl
theorem rrc_atBRll (ll : Byte) : Statement (.rrc_atBRll ll) := of_bounds rfl rfl
theorem rrc_atHL : Statement .rrc_atHL := of_bounds rfl rfl
theorem slaA : Statement .slaA := of_bounds rfl rfl
theorem slaB : Statement .slaB := of_bounds rfl rfl
theorem sla_atBRll (ll : Byte) : Statement (.sla_atBRll ll) := of_bounds rfl rfl
theorem sla_atHL : Statement .sla_atHL := of_bounds rfl rfl
theorem sllA : Statement .sllA := of_bounds rfl rfl
theorem sllB : Statement .sllB := of_bounds rfl rfl
theorem sll_atBRll (ll : Byte) : Statement (.sll_atBRll ll) := of_bounds rfl rfl
theorem sll_atHL : Statement .sll_atHL := of_bounds rfl rfl
theorem sraA : Statement .sraA := of_bounds rfl rfl
theorem sraB : Statement .sraB := of_bounds rfl rfl
theorem sra_atBRll (ll : Byte) : Statement (.sra_atBRll ll) := of_bounds rfl rfl
theorem sra_atHL : Statement .sra_atHL := of_bounds rfl rfl
theorem srlA : Statement .srlA := of_bounds rfl rfl
theorem srlB : Statement .srlB := of_bounds rfl rfl
theorem srl_atBRll (ll : Byte) : Statement (.srl_atBRll ll) := of_bounds rfl rfl
theorem srl_atHL : Statement .srl_atHL := of_bounds rfl rfl
theorem pushA : Statement .pushA := of_bounds rfl rfl
theorem pushB : Statement .pushB := of_bounds rfl rfl
theorem pushL : Statement .pushL := of_bounds rfl rfl
theorem pushH : Statement .pushH := of_bounds rfl rfl
theorem pushBA : Statement .pushBA := of_bounds rfl rfl
theorem pushHL : Statement .pushHL := of_bounds rfl rfl
theorem pushIX : Statement .pushIX := of_bounds rfl rfl
theorem pushIY : Statement .pushIY := of_bounds rfl rfl
theorem pushBR : Statement .pushBR := of_bounds rfl rfl
theorem pushEP : Statement .pushEP := of_bounds rfl rfl
theorem pushIP : Statement .pushIP := of_bounds rfl rfl
theorem pushSC : Statement .pushSC := of_bounds rfl rfl
theorem pushALL : Statement .pushALL := of_bounds rfl rfl
theorem pushALE : Statement .pushALE := of_bounds rfl rfl
theorem popA : Statement .popA := of_bounds rfl rfl
theorem popB : Statement .popB := of_bounds rfl rfl
theorem popL : Statement .popL := of_bounds rfl rfl
theorem popH : Statement .popH := of_bounds rfl rfl
theorem popBA : Statement .popBA := of_bounds rfl rfl
theorem popHL : Statement .popHL := of_bounds rfl rfl
theorem popIX : Statement .popIX := of_bounds rfl rfl
theorem popIY : Statement .popIY := of_bounds rfl rfl
theorem popBR : Statement .popBR := of_bounds rfl rfl
theorem popEP : Statement .popEP := of_bounds rfl rfl
theorem popIP : Statement .popIP := of_bounds rfl rfl
theorem popSC : Statement .popSC := of_bounds rfl rfl
theorem popALL : Statement .popALL := of_bounds rfl rfl
theorem popALE : Statement .popALE := of_bounds rfl rfl
theorem jrs (rr : Byte) : Statement (.jrs rr) := of_bounds rfl rfl
theorem jrsC (rr : Byte) : Statement (.jrsC rr) := of_bounds rfl rfl
theorem jrsNC (rr : Byte) : Statement (.jrsNC rr) := of_bounds rfl rfl
theorem jrsZ (rr : Byte) : Statement (.jrsZ rr) := of_bounds rfl rfl
theorem jrsNZ (rr : Byte) : Statement (.jrsNZ rr) := of_bounds rfl rfl
theorem jrsLT (rr : Byte) : Statement (.jrsLT rr) := of_bounds rfl rfl
theorem jrsLE (rr : Byte) : Statement (.jrsLE rr) := of_bounds rfl rfl
theorem jrsGT (rr : Byte) : Statement (.jrsGT rr) := of_bounds rfl rfl
theorem jrsGE (rr : Byte) : Statement (.jrsGE rr) := of_bounds rfl rfl
theorem jrsV (rr : Byte) : Statement (.jrsV rr) := of_bounds rfl rfl
theorem jrsNV (rr : Byte) : Statement (.jrsNV rr) := of_bounds rfl rfl
theorem jrsP (rr : Byte) : Statement (.jrsP rr) := of_bounds rfl rfl
theorem jrsM (rr : Byte) : Statement (.jrsM rr) := of_bounds rfl rfl
theorem jrsF0 (rr : Byte) : Statement (.jrsF0 rr) := of_bounds rfl rfl
theorem jrsF1 (rr : Byte) : Statement (.jrsF1 rr) := of_bounds rfl rfl
theorem jrsF2 (rr : Byte) : Statement (.jrsF2 rr) := of_bounds rfl rfl
theorem jrsF3 (rr : Byte) : Statement (.jrsF3 rr) := of_bounds rfl rfl
theorem jrsNF0 (rr : Byte) : Statement (.jrsNF0 rr) := of_bounds rfl rfl
theorem jrsNF1 (rr : Byte) : Statement (.jrsNF1 rr) := of_bounds rfl rfl
theorem jrsNF2 (rr : Byte) : Statement (.jrsNF2 rr) := of_bounds rfl rfl
theorem jrsNF3 (rr : Byte) : Statement (.jrsNF3 rr) := of_bounds rfl rfl
theorem jrl (qqrr : Word) : Statement (.jrl qqrr) := of_bounds rfl rfl
theorem jrlC (qqrr : Word) : Statement (.jrlC qqrr) := of_bounds rfl rfl
theorem jrlNC (qqrr : Word) : Statement (.jrlNC qqrr) := of_bounds rfl rfl
theorem jrlZ (qqrr : Word) : Statement (.jrlZ qqrr) := of_bounds rfl rfl
theorem jrlNZ (qqrr : Word) : Statement (.jrlNZ qqrr) := of_bounds rfl rfl
theorem djrNZ (rr : Byte) : Statement (.djrNZ rr) := of_bounds rfl rfl
theorem jpHL : Statement .jpHL := of_bounds rfl rfl
theorem jp_atkk (kk : Byte) : Statement (.jp_atkk kk) := of_bounds rfl rfl
theorem cars (rr : Byte) : Statement (.cars rr) := of_bounds rfl rfl
theorem carsC (rr : Byte) : Statement (.carsC rr) := of_bounds rfl rfl
theorem carsNC (rr : Byte) : Statement (.carsNC rr) := of_bounds rfl rfl
theorem carsZ (rr : Byte) : Statement (.carsZ rr) := of_bounds rfl rfl
theorem carsNZ (rr : Byte) : Statement (.carsNZ rr) := of_bounds rfl rfl
theorem carsLT (rr : Byte) : Statement (.carsLT rr) := of_bounds rfl rfl
theorem carsLE (rr : Byte) : Statement (.carsLE rr) := of_bounds rfl rfl
theorem carsGT (rr : Byte) : Statement (.carsGT rr) := of_bounds rfl rfl
theorem carsGE (rr : Byte) : Statement (.carsGE rr) := of_bounds rfl rfl
theorem carsV (rr : Byte) : Statement (.carsV rr) := of_bounds rfl rfl
theorem carsNV (rr : Byte) : Statement (.carsNV rr) := of_bounds rfl rfl
theorem carsP (rr : Byte) : Statement (.carsP rr) := of_bounds rfl rfl
theorem carsM (rr : Byte) : Statement (.carsM rr) := of_bounds rfl rfl
theorem carsF0 (rr : Byte) : Statement (.carsF0 rr) := of_bounds rfl rfl
theorem carsF1 (rr : Byte) : Statement (.carsF1 rr) := of_bounds rfl rfl
theorem carsF2 (rr : Byte) : Statement (.carsF2 rr) := of_bounds rfl rfl
theorem carsF3 (rr : Byte) : Statement (.carsF3 rr) := of_bounds rfl rfl
theorem carsNF0 (rr : Byte) : Statement (.carsNF0 rr) := of_bounds rfl rfl
theorem carsNF1 (rr : Byte) : Statement (.carsNF1 rr) := of_bounds rfl rfl
theorem carsNF2 (rr : Byte) : Statement (.carsNF2 rr) := of_bounds rfl rfl
theorem carsNF3 (rr : Byte) : Statement (.carsNF3 rr) := of_bounds rfl rfl
theorem carl (qqrr : Word) : Statement (.carl qqrr) := of_bounds rfl rfl
theorem carlC (qqrr : Word) : Statement (.carlC qqrr) := of_bounds rfl rfl
theorem carlNC (qqrr : Word) : Statement (.carlNC qqrr) := of_bounds rfl rfl
theorem carlZ (qqrr : Word) : Statement (.carlZ qqrr) := of_bounds rfl rfl
theorem carlNZ (qqrr : Word) : Statement (.carlNZ qqrr) := of_bounds rfl rfl
theorem call_athhll (hhll : Word) : Statement (.call_athhll hhll) := of_bounds rfl rfl
theorem ret : Statement .ret := of_bounds rfl rfl
theorem rete : Statement .rete := of_bounds rfl rfl
theorem rets : Statement .rets := of_bounds rfl rfl
theorem int_atkk (kk : Byte) : Statement (.int_atkk kk) := of_bounds rfl rfl
theorem nop : Statement .nop := of_bounds rfl rfl
theorem halt : Statement .halt := of_bounds rfl rfl
theorem slp : Statement .slp := of_bounds rfl rfl

end Sys2Proof.Laws.EncodedLength
end

