-- ==== Sys2Proof/Tests/Slice0.lean ====
section
/-! SUPPORT. The author's tests: which instructions a CPU model has, the decoding of every constructor from bytes
written out from the "Encoding" lines of the spec, single steps whose expected results are printed in
spec/95_test_vectors.md and spec/96_test_vectors_forms.md, and for every obligation with hypotheses a state and operands
that meet them all. -/

namespace Sys2Proof.Tests

open Sys2Proof.Machine Sys2Proof.Claims

/-! ### Helpers -/

/-- The start state S0 of spec/95_test_vectors.md with `m` as memory. -/
def s0 (m : List Host.Cell := []) : State :=
  { State.reset with
    a := 0x5A#8, b := 0x36#8, l := 0x04#8, h := 0x81#8, ix := 0x8000#16, iy := 0x9000#16, sp := 0xF000#16
    br := 0x83#8, ep := 0x01#8, xp := 0x02#8, yp := 0x03#8, nb := 0x02#8, cb := 0x01#8, sc := 0xC2#8, pc := 0x0102#16
    pins := { Pins.quiet with f0 := true, f2 := true }
    mem := m }

/-- What `f` reads in the next state of `exec i s`, if there is one. -/
def after {α : Type} (i : Instr) (s : State) (f : State → α) : Option α :=
  match exec i s with
  | .next t => some (f t)
  | .fault _ => none
  | .refused _ => none

/-- What `f` reads in the next state of a step, if there is one. -/
def afterStep {α : Type} (s : State) (f : State → α) : Option α :=
  match step s with
  | .next t => some (f t)
  | .fault _ => none
  | .refused _ => none

/-- `decode` of bytes given as numbers. -/
def decodeBytes (bs : List Nat) : Except DecodeError (Instr × Nat) := decode (bs.map (BitVec.ofNat 8))

/-- S0 with A, B and SC replaced, the operands of most 8-bit examples. -/
def abState (a b sc : Byte) : State := { s0 with a := a, b := b, sc := sc }

/-- S0 with BA, HL and SC replaced, the operands of most 16-bit examples. -/
def pairState (ba hl : Word) (sc : Byte) : State :=
  { s0 with b := highByte ba, a := lowByte ba, h := highByte hl, l := lowByte hl, sc := sc }

/-- The start of the branch examples (95 section 1.5): logical address 9000H, the instruction `n` bytes long, bank 02H
selected, SP = 0000H. -/
def branchState (n : Word) (sc : Byte) (m : List Host.Cell := []) : State :=
  { s0 m with pc := 0x9000#16 + n, sp := 0x0000#16, sc := sc, ep := 0x03#8 }

/-- A and SC. -/
def aSC (t : State) : Byte × Byte := (t.a, t.sc)

/-- BA and SC. -/
def baSC (t : State) : Word × Byte := (t.reg16 .ba, t.sc)

/-- HL and SC. -/
def hlSC (t : State) : Word × Byte := (t.reg16 .hl, t.sc)

/-- SC and whether interrupts are held off. -/
def scHold (t : State) : Byte × Bool := (t.sc, t.inhibitInt)

/-- NB, CB, PC, SP. -/
def flow (t : State) : Byte × Byte × Word × Word := (t.nb, t.cb, t.pc, t.sp)

/-- The start of the exception scenarios (95 section 2.12): S0 with PC = 8100H, `sc`, the vectors, two bytes of program, and
the inputs of the coming step. -/
def excState (sc : Byte) (b0 b1 : Byte) (p : Pins) : State :=
  { s0 [(0x01, 0x01#8), (0x03, 0x02#8), (0x05, 0x03#8), (0x11, 0x04#8), (0x13, 0x05#8), (0x8100, b0), (0x8101, b1)] with
    pc := 0x8100#16, sc := sc, env := [p] }

/-! ### Which CPU model has an instruction (30_encoding.md R110) -/

theorem test_wellFormed_refuses_MLT_on_model0 : Instr.mlt.wellFormed .model0 = false := rfl
theorem test_wellFormed_refuses_DIV_on_model2 : Instr.div.wellFormed .model2 = false := rfl
theorem test_wellFormed_refuses_bank_registers_on_model1 :
    [.ldNB_imm 0x03#8, .ldEP_imm 0x01#8, .ldXP_imm 0x01#8, .ldYP_imm 0x01#8, .ldA_NB, .ldA_EP, .ldA_XP, .ldA_YP, .ldNB_A,
      .ldEP_A, .ldXP_A, .ldYP_A, .pushEP, .pushIP, .pushALE, .popEP, .popIP, .popALE].map
      (fun i : Instr => (i.wellFormed .model0, i.wellFormed .model1, i.wellFormed .model2, i.wellFormed .model3))
    = List.replicate 18 (false, false, true, true) := rfl
theorem test_wellFormed_accepts_MLT_on_model1 : Instr.mlt.wellFormed .model1 = true := rfl
theorem test_wellFormed_accepts_NOP_on_model0 : Instr.nop.wellFormed .model0 = true := rfl
theorem test_absent_DIV_stops_by_name :
    exec .div { s0 with model := .model2 } = .fault (.absentOnModel .model2) := rfl

/-! ### Decoding: every constructor, from the "Encoding" lines of 40_transfer8.md to 49_system.md -/

/-- 40_transfer8.md R130 to R152. -/
theorem test_decode_transfer8_registers :
    [ [0x40], [0x41], [0x42], [0x43], [0x48], [0x49], [0x4A], [0x4B], [0x50], [0x51], [0x52], [0x53], [0x58],
      [0x59], [0x5A], [0x5B], [0xCE, 0xC0], [0xCE, 0xC1], [0xCE, 0xC2], [0xCE, 0xC3], [0xCE, 0xC4, 0x03],
      [0xCE, 0xC5, 0x04], [0xCE, 0xC6, 0x04], [0xCE, 0xC7, 0x04], [0xCE, 0xC8], [0xCE, 0xC9], [0xCE, 0xCA],
      [0xCE, 0xCB], [0xCE, 0xCC], [0xCE, 0xCD], [0xCE, 0xCE], [0xCE, 0xCF], [0xB0, 0x3C], [0xB1, 0x3C],
      [0xB2, 0x3C], [0xB3, 0x3C], [0xB4, 0x12], [0x9F, 0x3C], [0x44, 0x6E], [0x4C, 0x6E], [0x54, 0x6E],
      [0x5C, 0x6E], [0xCE, 0xD0, 0x6E, 0x12], [0xCE, 0xD1, 0x6E, 0x12], [0xCE, 0xD2, 0x6E, 0x12],
      [0xCE, 0xD3, 0x6E, 0x12], [0x45], [0x4D], [0x55], [0x5D], [0x46], [0x4E], [0x56], [0x5E], [0x47], [0x4F],
      [0x57], [0x5F], [0xCE, 0x40, 0x05], [0xCE, 0x48, 0x05], [0xCE, 0x50, 0x05], [0xCE, 0x58, 0x05],
      [0xCE, 0x41, 0x05], [0xCE, 0x49, 0x05], [0xCE, 0x51, 0x05], [0xCE, 0x59, 0x05], [0xCE, 0x42], [0xCE, 0x4A],
      [0xCE, 0x52], [0xCE, 0x5A], [0xCE, 0x43], [0xCE, 0x4B], [0xCE, 0x53], [0xCE, 0x5B] ].map decodeBytes
    = [ .ok (.ldA_A, 1), .ok (.ldA_B, 1), .ok (.ldA_L, 1), .ok (.ldA_H, 1), .ok (.ldB_A, 1), .ok (.ldB_B, 1),
        .ok (.ldB_L, 1), .ok (.ldB_H, 1), .ok (.ldL_A, 1), .ok (.ldL_B, 1), .ok (.ldL_L, 1), .ok (.ldL_H, 1),
        .ok (.ldH_A, 1), .ok (.ldH_B, 1), .ok (.ldH_L, 1), .ok (.ldH_H, 1), .ok (.ldA_BR, 2), .ok (.ldA_SC, 2),
        .ok (.ldBR_A, 2), .ok (.ldSC_A, 2), .ok ((.ldNB_imm 0x03#8), 3), .ok ((.ldEP_imm 0x04#8), 3),
        .ok ((.ldXP_imm 0x04#8), 3), .ok ((.ldYP_imm 0x04#8), 3), .ok (.ldA_NB, 2), .ok (.ldA_EP, 2),
        .ok (.ldA_XP, 2), .ok (.ldA_YP, 2), .ok (.ldNB_A, 2), .ok (.ldEP_A, 2), .ok (.ldXP_A, 2), .ok (.ldYP_A, 2),
        .ok ((.ldA_imm 0x3C#8), 2), .ok ((.ldB_imm 0x3C#8), 2), .ok ((.ldL_imm 0x3C#8), 2),
        .ok ((.ldH_imm 0x3C#8), 2), .ok ((.ldBR_imm 0x12#8), 2), .ok ((.ldSC_imm 0x3C#8), 2),
        .ok ((.ldA_atBRll 0x6E#8), 2), .ok ((.ldB_atBRll 0x6E#8), 2), .ok ((.ldL_atBRll 0x6E#8), 2),
        .ok ((.ldH_atBRll 0x6E#8), 2), .ok ((.ldA_athhll 0x126E#16), 4), .ok ((.ldB_athhll 0x126E#16), 4),
        .ok ((.ldL_athhll 0x126E#16), 4), .ok ((.ldH_athhll 0x126E#16), 4), .ok (.ldA_atHL, 1), .ok (.ldB_atHL, 1),
        .ok (.ldL_atHL, 1), .ok (.ldH_atHL, 1), .ok (.ldA_atIX, 1), .ok (.ldB_atIX, 1), .ok (.ldL_atIX, 1),
        .ok (.ldH_atIX, 1), .ok (.ldA_atIY, 1), .ok (.ldB_atIY, 1), .ok (.ldL_atIY, 1), .ok (.ldH_atIY, 1),
        .ok ((.ldA_atIXdd 0x05#8), 3), .ok ((.ldB_atIXdd 0x05#8), 3), .ok ((.ldL_atIXdd 0x05#8), 3),
        .ok ((.ldH_atIXdd 0x05#8), 3), .ok ((.ldA_atIYdd 0x05#8), 3), .ok ((.ldB_atIYdd 0x05#8), 3),
        .ok ((.ldL_atIYdd 0x05#8), 3), .ok ((.ldH_atIYdd 0x05#8), 3), .ok (.ldA_atIXL, 2), .ok (.ldB_atIXL, 2),
        .ok (.ldL_atIXL, 2), .ok (.ldH_atIXL, 2), .ok (.ldA_atIYL, 2), .ok (.ldB_atIYL, 2), .ok (.ldL_atIYL, 2),
        .ok (.ldH_atIYL, 2) ] := rfl

/-- 40_transfer8.md R153 to R168. -/
theorem test_decode_transfer8_stores :
    [ [0x78, 0x6E], [0x79, 0x6E], [0x7A, 0x6E], [0x7B, 0x6E], [0xCE, 0xD4, 0x6E, 0x12], [0xCE, 0xD5, 0x6E, 0x12],
      [0xCE, 0xD6, 0x6E, 0x12], [0xCE, 0xD7, 0x6E, 0x12], [0x68], [0x69], [0x6A], [0x6B], [0x60], [0x61], [0x62],
      [0x63], [0x70], [0x71], [0x72], [0x73], [0xCE, 0x44, 0x05], [0xCE, 0x4C, 0x05], [0xCE, 0x54, 0x05],
      [0xCE, 0x5C, 0x05], [0xCE, 0x45, 0x05], [0xCE, 0x4D, 0x05], [0xCE, 0x55, 0x05], [0xCE, 0x5D, 0x05],
      [0xCE, 0x46], [0xCE, 0x4E], [0xCE, 0x56], [0xCE, 0x5E], [0xCE, 0x47], [0xCE, 0x4F], [0xCE, 0x57],
      [0xCE, 0x5F], [0xDD, 0x6E, 0x3C], [0xB5, 0x3C], [0xB6, 0x3C], [0xB7, 0x3C], [0x7D, 0x6E], [0x7E, 0x6E],
      [0x7F, 0x6E], [0x6C, 0x6E], [0x6D] ].map decodeBytes
    = [ .ok ((.ld_atBRll_A 0x6E#8), 2), .ok ((.ld_atBRll_B 0x6E#8), 2), .ok ((.ld_atBRll_L 0x6E#8), 2),
        .ok ((.ld_atBRll_H 0x6E#8), 2), .ok ((.ld_athhll_A 0x126E#16), 4), .ok ((.ld_athhll_B 0x126E#16), 4),
        .ok ((.ld_athhll_L 0x126E#16), 4), .ok ((.ld_athhll_H 0x126E#16), 4), .ok (.ld_atHL_A, 1),
        .ok (.ld_atHL_B, 1), .ok (.ld_atHL_L, 1), .ok (.ld_atHL_H, 1), .ok (.ld_atIX_A, 1), .ok (.ld_atIX_B, 1),
        .ok (.ld_atIX_L, 1), .ok (.ld_atIX_H, 1), .ok (.ld_atIY_A, 1), .ok (.ld_atIY_B, 1), .ok (.ld_atIY_L, 1),
        .ok (.ld_atIY_H, 1), .ok ((.ld_atIXdd_A 0x05#8), 3), .ok ((.ld_atIXdd_B 0x05#8), 3),
        .ok ((.ld_atIXdd_L 0x05#8), 3), .ok ((.ld_atIXdd_H 0x05#8), 3), .ok ((.ld_atIYdd_A 0x05#8), 3),
        .ok ((.ld_atIYdd_B 0x05#8), 3), .ok ((.ld_atIYdd_L 0x05#8), 3), .ok ((.ld_atIYdd_H 0x05#8), 3),
        .ok (.ld_atIXL_A, 2), .ok (.ld_atIXL_B, 2), .ok (.ld_atIXL_L, 2), .ok (.ld_atIXL_H, 2),
        .ok (.ld_atIYL_A, 2), .ok (.ld_atIYL_B, 2), .ok (.ld_atIYL_L, 2), .ok (.ld_atIYL_H, 2),
        .ok ((.ld_atBRll_imm 0x6E#8 0x3C#8), 3), .ok ((.ld_atHL_imm 0x3C#8), 2), .ok ((.ld_atIX_imm 0x3C#8), 2),
        .ok ((.ld_atIY_imm 0x3C#8), 2), .ok ((.ld_atBRll_atHL 0x6E#8), 2), .ok ((.ld_atBRll_atIX 0x6E#8), 2),
        .ok ((.ld_atBRll_atIY 0x6E#8), 2), .ok ((.ld_atHL_atBRll 0x6E#8), 2), .ok (.ld_atHL_atHL, 1) ] := rfl

/-- 40_transfer8.md R169 to R186. -/
theorem test_decode_transfer8_memory :
    [ [0x6E], [0x6F], [0xCE, 0x60, 0x05], [0xCE, 0x61, 0x05], [0xCE, 0x62], [0xCE, 0x63], [0x64, 0x6E],
      [0x74, 0x6E], [0x65], [0x75], [0x66], [0x76], [0x67], [0x77], [0xCE, 0x68, 0x05], [0xCE, 0x78, 0x05],
      [0xCE, 0x69, 0x05], [0xCE, 0x79, 0x05], [0xCE, 0x6A], [0xCE, 0x7A], [0xCE, 0x6B], [0xCE, 0x7B], [0xCC],
      [0xCD], [0xF6], [0xF7] ].map decodeBytes
    = [ .ok (.ld_atHL_atIX, 1), .ok (.ld_atHL_atIY, 1), .ok ((.ld_atHL_atIXdd 0x05#8), 3),
        .ok ((.ld_atHL_atIYdd 0x05#8), 3), .ok (.ld_atHL_atIXL, 2), .ok (.ld_atHL_atIYL, 2),
        .ok ((.ld_atIX_atBRll 0x6E#8), 2), .ok ((.ld_atIY_atBRll 0x6E#8), 2), .ok (.ld_atIX_atHL, 1),
        .ok (.ld_atIY_atHL, 1), .ok (.ld_atIX_atIX, 1), .ok (.ld_atIY_atIX, 1), .ok (.ld_atIX_atIY, 1),
        .ok (.ld_atIY_atIY, 1), .ok ((.ld_atIX_atIXdd 0x05#8), 3), .ok ((.ld_atIY_atIXdd 0x05#8), 3),
        .ok ((.ld_atIX_atIYdd 0x05#8), 3), .ok ((.ld_atIY_atIYdd 0x05#8), 3), .ok (.ld_atIX_atIXL, 2),
        .ok (.ld_atIY_atIXL, 2), .ok (.ld_atIX_atIYL, 2), .ok (.ld_atIY_atIYL, 2), .ok (.exA_B, 1),
        .ok (.exA_atHL, 1), .ok (.swapA, 1), .ok (.swap_atHL, 1) ] := rfl

/-- 41_transfer16.md. -/
theorem test_decode_transfer16 :
    [ [0xCF, 0xE0], [0xCF, 0xE1], [0xCF, 0xE2], [0xCF, 0xE3], [0xCF, 0xE4], [0xCF, 0xE5], [0xCF, 0xE6],
      [0xCF, 0xE7], [0xCF, 0xE8], [0xCF, 0xE9], [0xCF, 0xEA], [0xCF, 0xEB], [0xCF, 0xEC], [0xCF, 0xED],
      [0xCF, 0xEE], [0xCF, 0xEF], [0xCF, 0xF9], [0xCF, 0xF8], [0xCF, 0xF5], [0xCF, 0xF4], [0xCF, 0xFA],
      [0xCF, 0xFE], [0xCF, 0xF0], [0xCF, 0xF1], [0xCF, 0xF2], [0xCF, 0xF3], [0xC4, 0x3C, 0x12], [0xC5, 0x3C, 0x12],
      [0xC6, 0x3C, 0x12], [0xC7, 0x3C, 0x12], [0xCF, 0x6E, 0x3C, 0x12], [0xB8, 0x6E, 0x12], [0xB9, 0x6E, 0x12],
      [0xBA, 0x6E, 0x12], [0xBB, 0x6E, 0x12], [0xCF, 0x78, 0x6E, 0x12], [0xCF, 0xC0], [0xCF, 0xC1], [0xCF, 0xC2],
      [0xCF, 0xC3], [0xCF, 0xD0], [0xCF, 0xD1], [0xCF, 0xD2], [0xCF, 0xD3], [0xCF, 0xD8], [0xCF, 0xD9],
      [0xCF, 0xDA], [0xCF, 0xDB], [0xCF, 0x70, 0x05], [0xCF, 0x71, 0x05], [0xCF, 0x72, 0x05], [0xCF, 0x73, 0x05],
      [0xBC, 0x6E, 0x12], [0xBD, 0x6E, 0x12], [0xBE, 0x6E, 0x12], [0xBF, 0x6E, 0x12], [0xCF, 0x7C, 0x6E, 0x12],
      [0xCF, 0xC4], [0xCF, 0xC5], [0xCF, 0xC6], [0xCF, 0xC7], [0xCF, 0xD4], [0xCF, 0xD5], [0xCF, 0xD6],
      [0xCF, 0xD7], [0xCF, 0xDC], [0xCF, 0xDD], [0xCF, 0xDE], [0xCF, 0xDF], [0xCF, 0x74, 0x05], [0xCF, 0x75, 0x05],
      [0xCF, 0x76, 0x05], [0xCF, 0x77, 0x05], [0xC8], [0xC9], [0xCA], [0xCB] ].map decodeBytes
    = [ .ok (.ldBA_BA, 2), .ok (.ldBA_HL, 2), .ok (.ldBA_IX, 2), .ok (.ldBA_IY, 2), .ok (.ldHL_BA, 2),
        .ok (.ldHL_HL, 2), .ok (.ldHL_IX, 2), .ok (.ldHL_IY, 2), .ok (.ldIX_BA, 2), .ok (.ldIX_HL, 2),
        .ok (.ldIX_IX, 2), .ok (.ldIX_IY, 2), .ok (.ldIY_BA, 2), .ok (.ldIY_HL, 2), .ok (.ldIY_IX, 2),
        .ok (.ldIY_IY, 2), .ok (.ldBA_PC, 2), .ok (.ldBA_SP, 2), .ok (.ldHL_PC, 2), .ok (.ldHL_SP, 2),
        .ok (.ldIX_SP, 2), .ok (.ldIY_SP, 2), .ok (.ldSP_BA, 2), .ok (.ldSP_HL, 2), .ok (.ldSP_IX, 2),
        .ok (.ldSP_IY, 2), .ok ((.ldBA_imm 0x123C#16), 3), .ok ((.ldHL_imm 0x123C#16), 3),
        .ok ((.ldIX_imm 0x123C#16), 3), .ok ((.ldIY_imm 0x123C#16), 3), .ok ((.ldSP_imm 0x123C#16), 4),
        .ok ((.ldBA_athhll 0x126E#16), 3), .ok ((.ldHL_athhll 0x126E#16), 3), .ok ((.ldIX_athhll 0x126E#16), 3),
        .ok ((.ldIY_athhll 0x126E#16), 3), .ok ((.ldSP_athhll 0x126E#16), 4), .ok (.ldBA_atHL, 2),
        .ok (.ldHL_atHL, 2), .ok (.ldIX_atHL, 2), .ok (.ldIY_atHL, 2), .ok (.ldBA_atIX, 2), .ok (.ldHL_atIX, 2),
        .ok (.ldIX_atIX, 2), .ok (.ldIY_atIX, 2), .ok (.ldBA_atIY, 2), .ok (.ldHL_atIY, 2), .ok (.ldIX_atIY, 2),
        .ok (.ldIY_atIY, 2), .ok ((.ldBA_atSPdd 0x05#8), 3), .ok ((.ldHL_atSPdd 0x05#8), 3),
        .ok ((.ldIX_atSPdd 0x05#8), 3), .ok ((.ldIY_atSPdd 0x05#8), 3), .ok ((.ld_athhll_BA 0x126E#16), 3),
        .ok ((.ld_athhll_HL 0x126E#16), 3), .ok ((.ld_athhll_IX 0x126E#16), 3), .ok ((.ld_athhll_IY 0x126E#16), 3),
        .ok ((.ld_athhll_SP 0x126E#16), 4), .ok (.ld_atHL_BA, 2), .ok (.ld_atHL_HL, 2), .ok (.ld_atHL_IX, 2),
        .ok (.ld_atHL_IY, 2), .ok (.ld_atIX_BA, 2), .ok (.ld_atIX_HL, 2), .ok (.ld_atIX_IX, 2),
        .ok (.ld_atIX_IY, 2), .ok (.ld_atIY_BA, 2), .ok (.ld_atIY_HL, 2), .ok (.ld_atIY_IX, 2),
        .ok (.ld_atIY_IY, 2), .ok ((.ld_atSPdd_BA 0x05#8), 3), .ok ((.ld_atSPdd_HL 0x05#8), 3),
        .ok ((.ld_atSPdd_IX 0x05#8), 3), .ok ((.ld_atSPdd_IY 0x05#8), 3), .ok (.exBA_HL, 1), .ok (.exBA_IX, 1),
        .ok (.exBA_IY, 1), .ok (.exBA_SP, 1) ] := rfl

/-- 42_alu8_arith.md R250 to R271. -/
theorem test_decode_add_adc :
    [ [0x00], [0x01], [0x02, 0x3C], [0x04, 0x6E], [0x05, 0x6E, 0x12], [0x03], [0x06], [0x07], [0xCE, 0x00, 0x05],
      [0xCE, 0x01, 0x05], [0xCE, 0x02], [0xCE, 0x03], [0xCE, 0x04], [0xCE, 0x05, 0x3C], [0xCE, 0x06], [0xCE, 0x07],
      [0x08], [0x09], [0x0A, 0x3C], [0x0C, 0x6E], [0x0D, 0x6E, 0x12], [0x0B], [0x0E], [0x0F], [0xCE, 0x08, 0x05],
      [0xCE, 0x09, 0x05], [0xCE, 0x0A], [0xCE, 0x0B], [0xCE, 0x0C], [0xCE, 0x0D, 0x3C], [0xCE, 0x0E],
      [0xCE, 0x0F] ].map decodeBytes
    = [ .ok (.addA_A, 1), .ok (.addA_B, 1), .ok ((.addA_imm 0x3C#8), 2), .ok ((.addA_atBRll 0x6E#8), 2),
        .ok ((.addA_athhll 0x126E#16), 3), .ok (.addA_atHL, 1), .ok (.addA_atIX, 1), .ok (.addA_atIY, 1),
        .ok ((.addA_atIXdd 0x05#8), 3), .ok ((.addA_atIYdd 0x05#8), 3), .ok (.addA_atIXL, 2), .ok (.addA_atIYL, 2),
        .ok (.add_atHL_A, 2), .ok ((.add_atHL_imm 0x3C#8), 3), .ok (.add_atHL_atIX, 2), .ok (.add_atHL_atIY, 2),
        .ok (.adcA_A, 1), .ok (.adcA_B, 1), .ok ((.adcA_imm 0x3C#8), 2), .ok ((.adcA_atBRll 0x6E#8), 2),
        .ok ((.adcA_athhll 0x126E#16), 3), .ok (.adcA_atHL, 1), .ok (.adcA_atIX, 1), .ok (.adcA_atIY, 1),
        .ok ((.adcA_atIXdd 0x05#8), 3), .ok ((.adcA_atIYdd 0x05#8), 3), .ok (.adcA_atIXL, 2), .ok (.adcA_atIYL, 2),
        .ok (.adc_atHL_A, 2), .ok ((.adc_atHL_imm 0x3C#8), 3), .ok (.adc_atHL_atIX, 2),
        .ok (.adc_atHL_atIY, 2) ] := rfl

/-- 42_alu8_arith.md R272 to R293. -/
theorem test_decode_sub_sbc :
    [ [0x10], [0x11], [0x12, 0x3C], [0x14, 0x6E], [0x15, 0x6E, 0x12], [0x13], [0x16], [0x17], [0xCE, 0x10, 0x05],
      [0xCE, 0x11, 0x05], [0xCE, 0x12], [0xCE, 0x13], [0xCE, 0x14], [0xCE, 0x15, 0x3C], [0xCE, 0x16], [0xCE, 0x17],
      [0x18], [0x19], [0x1A, 0x3C], [0x1C, 0x6E], [0x1D, 0x6E, 0x12], [0x1B], [0x1E], [0x1F], [0xCE, 0x18, 0x05],
      [0xCE, 0x19, 0x05], [0xCE, 0x1A], [0xCE, 0x1B], [0xCE, 0x1C], [0xCE, 0x1D, 0x3C], [0xCE, 0x1E],
      [0xCE, 0x1F] ].map decodeBytes
    = [ .ok (.subA_A, 1), .ok (.subA_B, 1), .ok ((.subA_imm 0x3C#8), 2), .ok ((.subA_atBRll 0x6E#8), 2),
        .ok ((.subA_athhll 0x126E#16), 3), .ok (.subA_atHL, 1), .ok (.subA_atIX, 1), .ok (.subA_atIY, 1),
        .ok ((.subA_atIXdd 0x05#8), 3), .ok ((.subA_atIYdd 0x05#8), 3), .ok (.subA_atIXL, 2), .ok (.subA_atIYL, 2),
        .ok (.sub_atHL_A, 2), .ok ((.sub_atHL_imm 0x3C#8), 3), .ok (.sub_atHL_atIX, 2), .ok (.sub_atHL_atIY, 2),
        .ok (.sbcA_A, 1), .ok (.sbcA_B, 1), .ok ((.sbcA_imm 0x3C#8), 2), .ok ((.sbcA_atBRll 0x6E#8), 2),
        .ok ((.sbcA_athhll 0x126E#16), 3), .ok (.sbcA_atHL, 1), .ok (.sbcA_atIX, 1), .ok (.sbcA_atIY, 1),
        .ok ((.sbcA_atIXdd 0x05#8), 3), .ok ((.sbcA_atIYdd 0x05#8), 3), .ok (.sbcA_atIXL, 2), .ok (.sbcA_atIYL, 2),
        .ok (.sbc_atHL_A, 2), .ok ((.sbc_atHL_imm 0x3C#8), 3), .ok (.sbc_atHL_atIX, 2),
        .ok (.sbc_atHL_atIY, 2) ] := rfl

/-- 42_alu8_arith.md R294 to R322. -/
theorem test_decode_cp_to_div :
    [ [0x30], [0x31], [0x32, 0x3C], [0x34, 0x6E], [0x35, 0x6E, 0x12], [0x33], [0x36], [0x37], [0xCE, 0x30, 0x05],
      [0xCE, 0x31, 0x05], [0xCE, 0x32], [0xCE, 0x33], [0xCE, 0xBC, 0x3C], [0xCE, 0xBD, 0x3C], [0xCE, 0xBE, 0x3C],
      [0xCE, 0xBF, 0x12], [0xDB, 0x6E, 0x3C], [0xCE, 0x34], [0xCE, 0x35, 0x3C], [0xCE, 0x36], [0xCE, 0x37], [0x80],
      [0x81], [0x82], [0x83], [0x84], [0x85, 0x6E], [0x86], [0x88], [0x89], [0x8A], [0x8B], [0x8C], [0x8D, 0x6E],
      [0x8E], [0xCE, 0xA4], [0xCE, 0xA5], [0xCE, 0xA6, 0x6E], [0xCE, 0xA7], [0xCE, 0xD8],
      [0xCE, 0xD9] ].map decodeBytes
    = [ .ok (.cpA_A, 1), .ok (.cpA_B, 1), .ok ((.cpA_imm 0x3C#8), 2), .ok ((.cpA_atBRll 0x6E#8), 2),
        .ok ((.cpA_athhll 0x126E#16), 3), .ok (.cpA_atHL, 1), .ok (.cpA_atIX, 1), .ok (.cpA_atIY, 1),
        .ok ((.cpA_atIXdd 0x05#8), 3), .ok ((.cpA_atIYdd 0x05#8), 3), .ok (.cpA_atIXL, 2), .ok (.cpA_atIYL, 2),
        .ok ((.cpB_imm 0x3C#8), 3), .ok ((.cpL_imm 0x3C#8), 3), .ok ((.cpH_imm 0x3C#8), 3),
        .ok ((.cpBR_imm 0x12#8), 3), .ok ((.cp_atBRll_imm 0x6E#8 0x3C#8), 3), .ok (.cp_atHL_A, 2),
        .ok ((.cp_atHL_imm 0x3C#8), 3), .ok (.cp_atHL_atIX, 2), .ok (.cp_atHL_atIY, 2), .ok (.incA, 1),
        .ok (.incB, 1), .ok (.incL, 1), .ok (.incH, 1), .ok (.incBR, 1), .ok ((.inc_atBRll 0x6E#8), 2),
        .ok (.inc_atHL, 1), .ok (.decA, 1), .ok (.decB, 1), .ok (.decL, 1), .ok (.decH, 1), .ok (.decBR, 1),
        .ok ((.dec_atBRll 0x6E#8), 2), .ok (.dec_atHL, 1), .ok (.negA, 2), .ok (.negB, 2),
        .ok ((.neg_atBRll 0x6E#8), 3), .ok (.neg_atHL, 2), .ok (.mlt, 2), .ok (.div, 2) ] := rfl

/-- 43_alu8_logic.md R340 to R371. -/
theorem test_decode_and_or :
    [ [0x20], [0x21], [0x22, 0x3C], [0x24, 0x6E], [0x25, 0x6E, 0x12], [0x23], [0x26], [0x27], [0xCE, 0x20, 0x05],
      [0xCE, 0x21, 0x05], [0xCE, 0x22], [0xCE, 0x23], [0xCE, 0xB0, 0x3C], [0xCE, 0xB1, 0x3C], [0xCE, 0xB2, 0x3C],
      [0x9C, 0x3C], [0xD8, 0x6E, 0x3C], [0xCE, 0x24], [0xCE, 0x25, 0x3C], [0xCE, 0x26], [0xCE, 0x27], [0x28],
      [0x29], [0x2A, 0x3C], [0x2C, 0x6E], [0x2D, 0x6E, 0x12], [0x2B], [0x2E], [0x2F], [0xCE, 0x28, 0x05],
      [0xCE, 0x29, 0x05], [0xCE, 0x2A], [0xCE, 0x2B], [0xCE, 0xB4, 0x3C], [0xCE, 0xB5, 0x3C], [0xCE, 0xB6, 0x3C],
      [0x9D, 0x3C], [0xD9, 0x6E, 0x3C], [0xCE, 0x2C], [0xCE, 0x2D, 0x3C], [0xCE, 0x2E],
      [0xCE, 0x2F] ].map decodeBytes
    = [ .ok (.andA_A, 1), .ok (.andA_B, 1), .ok ((.andA_imm 0x3C#8), 2), .ok ((.andA_atBRll 0x6E#8), 2),
        .ok ((.andA_athhll 0x126E#16), 3), .ok (.andA_atHL, 1), .ok (.andA_atIX, 1), .ok (.andA_atIY, 1),
        .ok ((.andA_atIXdd 0x05#8), 3), .ok ((.andA_atIYdd 0x05#8), 3), .ok (.andA_atIXL, 2), .ok (.andA_atIYL, 2),
        .ok ((.andB_imm 0x3C#8), 3), .ok ((.andL_imm 0x3C#8), 3), .ok ((.andH_imm 0x3C#8), 3),
        .ok ((.andSC_imm 0x3C#8), 2), .ok ((.and_atBRll_imm 0x6E#8 0x3C#8), 3), .ok (.and_atHL_A, 2),
        .ok ((.and_atHL_imm 0x3C#8), 3), .ok (.and_atHL_atIX, 2), .ok (.and_atHL_atIY, 2), .ok (.orA_A, 1),
        .ok (.orA_B, 1), .ok ((.orA_imm 0x3C#8), 2), .ok ((.orA_atBRll 0x6E#8), 2),
        .ok ((.orA_athhll 0x126E#16), 3), .ok (.orA_atHL, 1), .ok (.orA_atIX, 1), .ok (.orA_atIY, 1),
        .ok ((.orA_atIXdd 0x05#8), 3), .ok ((.orA_atIYdd 0x05#8), 3), .ok (.orA_atIXL, 2), .ok (.orA_atIYL, 2),
        .ok ((.orB_imm 0x3C#8), 3), .ok ((.orL_imm 0x3C#8), 3), .ok ((.orH_imm 0x3C#8), 3),
        .ok ((.orSC_imm 0x3C#8), 2), .ok ((.or_atBRll_imm 0x6E#8 0x3C#8), 3), .ok (.or_atHL_A, 2),
        .ok ((.or_atHL_imm 0x3C#8), 3), .ok (.or_atHL_atIX, 2), .ok (.or_atHL_atIY, 2) ] := rfl

/-- 43_alu8_logic.md R372 to R395. -/
theorem test_decode_xor_bit_cpl :
    [ [0x38], [0x39], [0x3A, 0x3C], [0x3C, 0x6E], [0x3D, 0x6E, 0x12], [0x3B], [0x3E], [0x3F], [0xCE, 0x38, 0x05],
      [0xCE, 0x39, 0x05], [0xCE, 0x3A], [0xCE, 0x3B], [0xCE, 0xB8, 0x3C], [0xCE, 0xB9, 0x3C], [0xCE, 0xBA, 0x3C],
      [0x9E, 0x3C], [0xDA, 0x6E, 0x3C], [0xCE, 0x3C], [0xCE, 0x3D, 0x3C], [0xCE, 0x3E], [0xCE, 0x3F], [0x94],
      [0x96, 0x3C], [0x97, 0x3C], [0xDC, 0x6E, 0x3C], [0x95, 0x3C], [0xCE, 0xA0], [0xCE, 0xA1], [0xCE, 0xA2, 0x6E],
      [0xCE, 0xA3] ].map decodeBytes
    = [ .ok (.xorA_A, 1), .ok (.xorA_B, 1), .ok ((.xorA_imm 0x3C#8), 2), .ok ((.xorA_atBRll 0x6E#8), 2),
        .ok ((.xorA_athhll 0x126E#16), 3), .ok (.xorA_atHL, 1), .ok (.xorA_atIX, 1), .ok (.xorA_atIY, 1),
        .ok ((.xorA_atIXdd 0x05#8), 3), .ok ((.xorA_atIYdd 0x05#8), 3), .ok (.xorA_atIXL, 2), .ok (.xorA_atIYL, 2),
        .ok ((.xorB_imm 0x3C#8), 3), .ok ((.xorL_imm 0x3C#8), 3), .ok ((.xorH_imm 0x3C#8), 3),
        .ok ((.xorSC_imm 0x3C#8), 2), .ok ((.xor_atBRll_imm 0x6E#8 0x3C#8), 3), .ok (.xor_atHL_A, 2),
        .ok ((.xor_atHL_imm 0x3C#8), 3), .ok (.xor_atHL_atIX, 2), .ok (.xor_atHL_atIY, 2), .ok (.bitA_B, 1),
        .ok ((.bitA_imm 0x3C#8), 2), .ok ((.bitB_imm 0x3C#8), 2), .ok ((.bit_atBRll_imm 0x6E#8 0x3C#8), 3),
        .ok ((.bit_atHL_imm 0x3C#8), 2), .ok (.cplA, 2), .ok (.cplB, 2), .ok ((.cpl_atBRll 0x6E#8), 3),
        .ok (.cpl_atHL, 2) ] := rfl

/-- 44_alu16.md R410 to R429. -/
theorem test_decode_alu16_registers :
    [ [0xCF, 0x00], [0xCF, 0x01], [0xCF, 0x02], [0xCF, 0x03], [0xCF, 0x20], [0xCF, 0x21], [0xCF, 0x22],
      [0xCF, 0x23], [0xCF, 0x04], [0xCF, 0x05], [0xCF, 0x06], [0xCF, 0x07], [0xCF, 0x24], [0xCF, 0x25],
      [0xCF, 0x26], [0xCF, 0x27], [0xCF, 0x08], [0xCF, 0x09], [0xCF, 0x0A], [0xCF, 0x0B], [0xCF, 0x28],
      [0xCF, 0x29], [0xCF, 0x2A], [0xCF, 0x2B], [0xCF, 0x0C], [0xCF, 0x0D], [0xCF, 0x0E], [0xCF, 0x0F],
      [0xCF, 0x2C], [0xCF, 0x2D], [0xCF, 0x2E], [0xCF, 0x2F], [0xCF, 0x18], [0xCF, 0x19], [0xCF, 0x1A],
      [0xCF, 0x1B], [0xCF, 0x38], [0xCF, 0x39], [0xCF, 0x3A], [0xCF, 0x3B], [0xCF, 0x40], [0xCF, 0x41],
      [0xCF, 0x42], [0xCF, 0x43], [0xCF, 0x44], [0xCF, 0x45], [0xCF, 0x48], [0xCF, 0x49], [0xCF, 0x4A],
      [0xCF, 0x4B], [0xCF, 0x4C], [0xCF, 0x4D], [0xCF, 0x5C], [0xCF, 0x5D], [0xC0, 0x3C, 0x12], [0xC1, 0x3C, 0x12],
      [0xC2, 0x3C, 0x12] ].map decodeBytes
    = [ .ok (.addBA_BA, 2), .ok (.addBA_HL, 2), .ok (.addBA_IX, 2), .ok (.addBA_IY, 2), .ok (.addHL_BA, 2),
        .ok (.addHL_HL, 2), .ok (.addHL_IX, 2), .ok (.addHL_IY, 2), .ok (.adcBA_BA, 2), .ok (.adcBA_HL, 2),
        .ok (.adcBA_IX, 2), .ok (.adcBA_IY, 2), .ok (.adcHL_BA, 2), .ok (.adcHL_HL, 2), .ok (.adcHL_IX, 2),
        .ok (.adcHL_IY, 2), .ok (.subBA_BA, 2), .ok (.subBA_HL, 2), .ok (.subBA_IX, 2), .ok (.subBA_IY, 2),
        .ok (.subHL_BA, 2), .ok (.subHL_HL, 2), .ok (.subHL_IX, 2), .ok (.subHL_IY, 2), .ok (.sbcBA_BA, 2),
        .ok (.sbcBA_HL, 2), .ok (.sbcBA_IX, 2), .ok (.sbcBA_IY, 2), .ok (.sbcHL_BA, 2), .ok (.sbcHL_HL, 2),
        .ok (.sbcHL_IX, 2), .ok (.sbcHL_IY, 2), .ok (.cpBA_BA, 2), .ok (.cpBA_HL, 2), .ok (.cpBA_IX, 2),
        .ok (.cpBA_IY, 2), .ok (.cpHL_BA, 2), .ok (.cpHL_HL, 2), .ok (.cpHL_IX, 2), .ok (.cpHL_IY, 2),
        .ok (.addIX_BA, 2), .ok (.addIX_HL, 2), .ok (.addIY_BA, 2), .ok (.addIY_HL, 2), .ok (.addSP_BA, 2),
        .ok (.addSP_HL, 2), .ok (.subIX_BA, 2), .ok (.subIX_HL, 2), .ok (.subIY_BA, 2), .ok (.subIY_HL, 2),
        .ok (.subSP_BA, 2), .ok (.subSP_HL, 2), .ok (.cpSP_BA, 2), .ok (.cpSP_HL, 2),
        .ok ((.addBA_imm 0x123C#16), 3), .ok ((.addHL_imm 0x123C#16), 3), .ok ((.addIX_imm 0x123C#16), 3) ] := rfl

/-- 44_alu16.md R430 to R449. -/
theorem test_decode_alu16_rest :
    [ [0xC3, 0x3C, 0x12], [0xD0, 0x3C, 0x12], [0xD1, 0x3C, 0x12], [0xD2, 0x3C, 0x12], [0xD3, 0x3C, 0x12],
      [0xD4, 0x3C, 0x12], [0xD5, 0x3C, 0x12], [0xD6, 0x3C, 0x12], [0xD7, 0x3C, 0x12], [0xCF, 0x60, 0x3C, 0x12],
      [0xCF, 0x61, 0x3C, 0x12], [0xCF, 0x62, 0x3C, 0x12], [0xCF, 0x63, 0x3C, 0x12], [0xCF, 0x68, 0x3C, 0x12],
      [0xCF, 0x6A, 0x3C, 0x12], [0xCF, 0x6C, 0x3C, 0x12], [0x90], [0x91], [0x92], [0x93], [0x87], [0x98], [0x99],
      [0x9A], [0x9B], [0x8F] ].map decodeBytes
    = [ .ok ((.addIY_imm 0x123C#16), 3), .ok ((.subBA_imm 0x123C#16), 3), .ok ((.subHL_imm 0x123C#16), 3),
        .ok ((.subIX_imm 0x123C#16), 3), .ok ((.subIY_imm 0x123C#16), 3), .ok ((.cpBA_imm 0x123C#16), 3),
        .ok ((.cpHL_imm 0x123C#16), 3), .ok ((.cpIX_imm 0x123C#16), 3), .ok ((.cpIY_imm 0x123C#16), 3),
        .ok ((.adcBA_imm 0x123C#16), 4), .ok ((.adcHL_imm 0x123C#16), 4), .ok ((.sbcBA_imm 0x123C#16), 4),
        .ok ((.sbcHL_imm 0x123C#16), 4), .ok ((.addSP_imm 0x123C#16), 4), .ok ((.subSP_imm 0x123C#16), 4),
        .ok ((.cpSP_imm 0x123C#16), 4), .ok (.incBA, 1), .ok (.incHL, 1), .ok (.incIX, 1), .ok (.incIY, 1),
        .ok (.incSP, 1), .ok (.decBA, 1), .ok (.decHL, 1), .ok (.decIX, 1), .ok (.decIY, 1),
        .ok (.decSP, 1) ] := rfl

/-- 45_aux.md. -/
theorem test_decode_pack :
    [ [0xDE], [0xDF], [0xCE, 0xA8] ].map decodeBytes
    = [ .ok (.pack, 1), .ok (.upck, 1), .ok (.sep, 2) ] := rfl

/-- 46_rotate_shift.md. -/
theorem test_decode_rotate_shift :
    [ [0xCE, 0x90], [0xCE, 0x91], [0xCE, 0x92, 0x6E], [0xCE, 0x93], [0xCE, 0x94], [0xCE, 0x95], [0xCE, 0x96, 0x6E],
      [0xCE, 0x97], [0xCE, 0x98], [0xCE, 0x99], [0xCE, 0x9A, 0x6E], [0xCE, 0x9B], [0xCE, 0x9C], [0xCE, 0x9D],
      [0xCE, 0x9E, 0x6E], [0xCE, 0x9F], [0xCE, 0x80], [0xCE, 0x81], [0xCE, 0x82, 0x6E], [0xCE, 0x83], [0xCE, 0x84],
      [0xCE, 0x85], [0xCE, 0x86, 0x6E], [0xCE, 0x87], [0xCE, 0x88], [0xCE, 0x89], [0xCE, 0x8A, 0x6E], [0xCE, 0x8B],
      [0xCE, 0x8C], [0xCE, 0x8D], [0xCE, 0x8E, 0x6E], [0xCE, 0x8F] ].map decodeBytes
    = [ .ok (.rlA, 2), .ok (.rlB, 2), .ok ((.rl_atBRll 0x6E#8), 3), .ok (.rl_atHL, 2), .ok (.rlcA, 2),
        .ok (.rlcB, 2), .ok ((.rlc_atBRll 0x6E#8), 3), .ok (.rlc_atHL, 2), .ok (.rrA, 2), .ok (.rrB, 2),
        .ok ((.rr_atBRll 0x6E#8), 3), .ok (.rr_atHL, 2), .ok (.rrcA, 2), .ok (.rrcB, 2),
        .ok ((.rrc_atBRll 0x6E#8), 3), .ok (.rrc_atHL, 2), .ok (.slaA, 2), .ok (.slaB, 2),
        .ok ((.sla_atBRll 0x6E#8), 3), .ok (.sla_atHL, 2), .ok (.sllA, 2), .ok (.sllB, 2),
        .ok ((.sll_atBRll 0x6E#8), 3), .ok (.sll_atHL, 2), .ok (.sraA, 2), .ok (.sraB, 2),
        .ok ((.sra_atBRll 0x6E#8), 3), .ok (.sra_atHL, 2), .ok (.srlA, 2), .ok (.srlB, 2),
        .ok ((.srl_atBRll 0x6E#8), 3), .ok (.srl_atHL, 2) ] := rfl

/-- 47_stack.md. -/
theorem test_decode_stack :
    [ [0xCF, 0xB0], [0xCF, 0xB1], [0xCF, 0xB2], [0xCF, 0xB3], [0xA0], [0xA1], [0xA2], [0xA3], [0xA4], [0xA5],
      [0xA6], [0xA7], [0xCF, 0xB8], [0xCF, 0xB9], [0xCF, 0xB4], [0xCF, 0xB5], [0xCF, 0xB6], [0xCF, 0xB7], [0xA8],
      [0xA9], [0xAA], [0xAB], [0xAC], [0xAD], [0xAE], [0xAF], [0xCF, 0xBC], [0xCF, 0xBD] ].map decodeBytes
    = [ .ok (.pushA, 2), .ok (.pushB, 2), .ok (.pushL, 2), .ok (.pushH, 2), .ok (.pushBA, 1), .ok (.pushHL, 1),
        .ok (.pushIX, 1), .ok (.pushIY, 1), .ok (.pushBR, 1), .ok (.pushEP, 1), .ok (.pushIP, 1), .ok (.pushSC, 1),
        .ok (.pushALL, 2), .ok (.pushALE, 2), .ok (.popA, 2), .ok (.popB, 2), .ok (.popL, 2), .ok (.popH, 2),
        .ok (.popBA, 1), .ok (.popHL, 1), .ok (.popIX, 1), .ok (.popIY, 1), .ok (.popBR, 1), .ok (.popEP, 1),
        .ok (.popIP, 1), .ok (.popSC, 1), .ok (.popALL, 2), .ok (.popALE, 2) ] := rfl

/-- 48_branch.md R544 to R551. -/
theorem test_decode_jumps :
    [ [0xF1, 0x10], [0xE4, 0x10], [0xE5, 0x10], [0xE6, 0x10], [0xE7, 0x10], [0xCE, 0xE0, 0x10], [0xCE, 0xE1, 0x10],
      [0xCE, 0xE2, 0x10], [0xCE, 0xE3, 0x10], [0xCE, 0xE4, 0x10], [0xCE, 0xE5, 0x10], [0xCE, 0xE6, 0x10],
      [0xCE, 0xE7, 0x10], [0xCE, 0xE8, 0x10], [0xCE, 0xE9, 0x10], [0xCE, 0xEA, 0x10], [0xCE, 0xEB, 0x10],
      [0xCE, 0xEC, 0x10], [0xCE, 0xED, 0x10], [0xCE, 0xEE, 0x10], [0xCE, 0xEF, 0x10], [0xF3, 0x10, 0x02],
      [0xEC, 0x10, 0x02], [0xED, 0x10, 0x02], [0xEE, 0x10, 0x02], [0xEF, 0x10, 0x02], [0xF5, 0x10], [0xF4],
      [0xFD, 0x20] ].map decodeBytes
    = [ .ok ((.jrs 0x10#8), 2), .ok ((.jrsC 0x10#8), 2), .ok ((.jrsNC 0x10#8), 2), .ok ((.jrsZ 0x10#8), 2),
        .ok ((.jrsNZ 0x10#8), 2), .ok ((.jrsLT 0x10#8), 3), .ok ((.jrsLE 0x10#8), 3), .ok ((.jrsGT 0x10#8), 3),
        .ok ((.jrsGE 0x10#8), 3), .ok ((.jrsV 0x10#8), 3), .ok ((.jrsNV 0x10#8), 3), .ok ((.jrsP 0x10#8), 3),
        .ok ((.jrsM 0x10#8), 3), .ok ((.jrsF0 0x10#8), 3), .ok ((.jrsF1 0x10#8), 3), .ok ((.jrsF2 0x10#8), 3),
        .ok ((.jrsF3 0x10#8), 3), .ok ((.jrsNF0 0x10#8), 3), .ok ((.jrsNF1 0x10#8), 3), .ok ((.jrsNF2 0x10#8), 3),
        .ok ((.jrsNF3 0x10#8), 3), .ok ((.jrl 0x0210#16), 3), .ok ((.jrlC 0x0210#16), 3),
        .ok ((.jrlNC 0x0210#16), 3), .ok ((.jrlZ 0x0210#16), 3), .ok ((.jrlNZ 0x0210#16), 3),
        .ok ((.djrNZ 0x10#8), 2), .ok (.jpHL, 1), .ok ((.jp_atkk 0x20#8), 2) ] := rfl

/-- 48_branch.md R552 to R561. -/
theorem test_decode_calls :
    [ [0xF0, 0x10], [0xE0, 0x10], [0xE1, 0x10], [0xE2, 0x10], [0xE3, 0x10], [0xCE, 0xF0, 0x10], [0xCE, 0xF1, 0x10],
      [0xCE, 0xF2, 0x10], [0xCE, 0xF3, 0x10], [0xCE, 0xF4, 0x10], [0xCE, 0xF5, 0x10], [0xCE, 0xF6, 0x10],
      [0xCE, 0xF7, 0x10], [0xCE, 0xF8, 0x10], [0xCE, 0xF9, 0x10], [0xCE, 0xFA, 0x10], [0xCE, 0xFB, 0x10],
      [0xCE, 0xFC, 0x10], [0xCE, 0xFD, 0x10], [0xCE, 0xFE, 0x10], [0xCE, 0xFF, 0x10], [0xF2, 0x10, 0x02],
      [0xE8, 0x10, 0x02], [0xE9, 0x10, 0x02], [0xEA, 0x10, 0x02], [0xEB, 0x10, 0x02], [0xFB, 0x6E, 0x12], [0xF8],
      [0xF9], [0xFA], [0xFC, 0x20] ].map decodeBytes
    = [ .ok ((.cars 0x10#8), 2), .ok ((.carsC 0x10#8), 2), .ok ((.carsNC 0x10#8), 2), .ok ((.carsZ 0x10#8), 2),
        .ok ((.carsNZ 0x10#8), 2), .ok ((.carsLT 0x10#8), 3), .ok ((.carsLE 0x10#8), 3), .ok ((.carsGT 0x10#8), 3),
        .ok ((.carsGE 0x10#8), 3), .ok ((.carsV 0x10#8), 3), .ok ((.carsNV 0x10#8), 3), .ok ((.carsP 0x10#8), 3),
        .ok ((.carsM 0x10#8), 3), .ok ((.carsF0 0x10#8), 3), .ok ((.carsF1 0x10#8), 3), .ok ((.carsF2 0x10#8), 3),
        .ok ((.carsF3 0x10#8), 3), .ok ((.carsNF0 0x10#8), 3), .ok ((.carsNF1 0x10#8), 3),
        .ok ((.carsNF2 0x10#8), 3), .ok ((.carsNF3 0x10#8), 3), .ok ((.carl 0x0210#16), 3),
        .ok ((.carlC 0x0210#16), 3), .ok ((.carlNC 0x0210#16), 3), .ok ((.carlZ 0x0210#16), 3),
        .ok ((.carlNZ 0x0210#16), 3), .ok ((.call_athhll 0x126E#16), 3), .ok (.ret, 1), .ok (.rete, 1),
        .ok (.rets, 1), .ok ((.int_atkk 0x20#8), 2) ] := rfl

/-- 49_system.md. -/
theorem test_decode_system :
    [ [0xFF], [0xCE, 0xAE], [0xCE, 0xAF] ].map decodeBytes
    = [ .ok (.nop, 1), .ok (.halt, 2), .ok (.slp, 2) ] := rfl

/-- The lists of 30_encoding.md R106 to R108. -/
theorem test_decode_undefined_codes :
    [ [0x7C], [0xFE], [0xCE, 0x64], [0xCE, 0x7F], [0xCE, 0xDF], [0xCF, 0x10], [0xCF, 0x7D], [0xCF, 0xFF] ].map decodeBytes
    = [ .error (.undefinedFirst 0x7C#8), .error (.undefinedFirst 0xFE#8), .error (.undefinedSecond 0xCE#8 0x64#8),
        .error (.undefinedSecond 0xCE#8 0x7F#8), .error (.undefinedSecond 0xCE#8 0xDF#8),
        .error (.undefinedSecond 0xCF#8 0x10#8), .error (.undefinedSecond 0xCF#8 0x7D#8),
        .error (.undefinedSecond 0xCF#8 0xFF#8) ] := rfl

/-- Bit 0 of the table's word is the least significant bit of the first byte (spec/opcode_table.json). -/
theorem test_decodeTableWord :
    [decodeTableWord 8 0x41, decodeTableWord 16 0xAECE, decodeTableWord 24 0x1234C4, decodeTableWord 8 0x7C]
    = [some .ldA_B, some .halt, some (.ldBA_imm 0x1234#16), none] := rfl

/-- A placed table word is the next instruction that runs (log 29). -/
theorem test_withFetchWord_runs : afterStep (State.reset.withFetchWord 16 0x5AB0) (fun t => (t.a, t.pc)) =
    some (0x5A#8, 0x0002#16) := rfl

/-! ### 8-bit arithmetic (95 E1 to E4, E6, E8, E20 to E25 and section 2.1): result, SC -/

theorem test_add_A_B :
    [(0x5A#8, 0xA5#8, 0x00#8), (0x5B#8, 0xA5#8, 0x00#8), (0x5B#8, 0x25#8, 0x00#8), (0x55#8, 0x28#8, 0x10#8),
      (0x74#8, 0x98#8, 0x10#8), (0x20#8, 0xD0#8, 0x20#8), (0x2E#8, 0x53#8, 0x20#8), (0xC7#8, 0x52#8, 0x20#8),
      (0x18#8, 0x24#8, 0x30#8)].map (fun (a, b, sc) => after .addA_B (abState a b sc) aSC)
    = [some (0xFF#8, 0x08#8), some (0x00#8, 0x03#8), some (0x80#8, 0x0C#8), some (0x83#8, 0x10#8), some (0x72#8, 0x12#8),
      some (0x00#8, 0x21#8), some (0x01#8, 0x22#8), some (0x09#8, 0x2C#8), some (0x02#8, 0x32#8)] := by decide

theorem test_adc_A_B :
    [(0xFF#8, 0xFF#8, 0xC2#8), (0x7F#8, 0x00#8, 0xC2#8), (0x99#8, 0x99#8, 0xD2#8), (0x45#8, 0x54#8, 0xD2#8),
      (0x0F#8, 0x0F#8, 0xE2#8), (0x08#8, 0x08#8, 0xE0#8), (0x39#8, 0x39#8, 0xF2#8), (0x95#8, 0x44#8, 0xF0#8)].map
      (fun (a, b, sc) => after .adcA_B (abState a b sc) aSC)
    = [some (0xFF#8, 0xCA#8), some (0x80#8, 0xCC#8), some (0x99#8, 0xD2#8), some (0x00#8, 0xD3#8), some (0x0F#8, 0xEA#8),
      some (0x00#8, 0xE7#8), some (0x09#8, 0xF2#8), some (0x09#8, 0xF0#8)] := by decide

theorem test_sub_A_B :
    [(0x5A#8, 0x5A#8, 0x00#8), (0x5A#8, 0x5B#8, 0x00#8), (0x5A#8, 0xDA#8, 0x00#8), (0x74#8, 0x98#8, 0x10#8),
      (0x88#8, 0x39#8, 0x30#8)].map (fun (a, b, sc) => after .subA_B (abState a b sc) aSC)
    = [some (0x00#8, 0x01#8), some (0xFF#8, 0x0A#8), some (0x80#8, 0x0E#8), some (0x76#8, 0x12#8),
      some (0x09#8, 0x32#8)] := by decide

theorem test_sbc_A_B :
    [(0x80#8, 0x7F#8, 0xC2#8), (0x00#8, 0xFF#8, 0xC2#8), (0x00#8, 0x00#8, 0xD2#8), (0x00#8, 0x99#8, 0xD2#8),
      (0x07#8, 0x08#8, 0xE0#8), (0xF8#8, 0x01#8, 0xE2#8), (0x12#8, 0x09#8, 0xF2#8)].map
      (fun (a, b, sc) => after .sbcA_B (abState a b sc) aSC)
    = [some (0x00#8, 0xC5#8), some (0x00#8, 0xC3#8), some (0x99#8, 0xD2#8), some (0x00#8, 0xD3#8), some (0x0F#8, 0xEE#8),
      some (0x06#8, 0xE4#8), some (0x02#8, 0xF2#8)] := by decide

/-- 95 E20 on the pages with [HL] as destination: [HL] is in page EP, physical 018104H in S0. -/
theorem test_adc_memory_destination :
    after (.adc_atHL_imm 0xD0#8) { s0 [(0x18104, 0x30#8)] with sc := 0x00#8 } (fun t => (t.mem, t.sc))
    = some ([], 0x03#8) := by decide

theorem test_cp_A_B :
    [(0x74#8, 0x2A#8), (0x1D#8, 0x1D#8), (0x3C#8, 0x59#8), (0xC3#8, 0x62#8)].map
      (fun (a, b) => after .cpA_B (abState a b 0xF0#8) aSC)
    = [some (0x74#8, 0xF0#8), some (0x1D#8, 0xF1#8), some (0x3C#8, 0xFA#8), some (0xC3#8, 0xF4#8)] := by decide

theorem test_inc_dec_write_only_Z :
    [after .incA (abState 0xFF#8 0x00#8 0xCE#8) aSC, after .incA (abState 0x09#8 0x00#8 0xD0#8) aSC,
      after .decA (abState 0x01#8 0x00#8 0xCE#8) aSC, after .decA (abState 0x00#8 0x00#8 0xC1#8) aSC]
    = [some (0x00#8, 0xCF#8), some (0x0A#8, 0xD0#8), some (0x00#8, 0xCF#8), some (0xFF#8, 0xC0#8)] := by decide

theorem test_neg_A :
    [(0x57#8, 0x00#8), (0x00#8, 0x00#8), (0x80#8, 0x00#8), (0x57#8, 0x10#8), (0x57#8, 0x30#8)].map
      (fun (a, sc) => after .negA (abState a 0x00#8 sc) aSC)
    = [some (0xA9#8, 0x0A#8), some (0x00#8, 0x01#8), some (0x80#8, 0x0E#8), some (0x43#8, 0x12#8), some (0x03#8, 0x32#8)] := by
  decide

/-- 95 E6 and section 2.1. -/
theorem test_mlt :
    [(0x00#16, 0x64#8), (0x64#16, 0x58#8), (0xC8#16, 0xA5#8), (0x77FF#16, 0xFF#8)].map
      (fun (hl, a) => after .mlt { pairState 0x0000#16 hl 0xC6#8 with a := a } hlSC)
    = [some (0x0000#16, 0xC1#8), some (0x2260#16, 0xC0#8), some (0x80E8#16, 0xC8#8), some (0xFE01#16, 0xC8#8)] := by decide

/-- 95 E8 and section 2.1: H is the remainder, L the quotient; HL is kept when the quotient does not fit. -/
theorem test_div :
    [(0x1A16#16, 0x64#8), (0x332C#16, 0x64#8), (0x0000#16, 0x58#8), (0x0301#16, 0x02#8), (0xFEFF#16, 0xFF#8),
      (0xFFFF#16, 0xFF#8)].map
      (fun (hl, a) => after .div { pairState 0x0000#16 hl 0xC6#8 with a := a } hlSC)
    = [some (0x4E42#16, 0xC0#8), some (0x0083#16, 0xC8#8), some (0x0000#16, 0xC1#8), some (0x0301#16, 0xCC#8),
      some (0xFEFF#16, 0xC8#8), some (0xFFFF#16, 0xCC#8)] := by decide

/-- A digit above 9 in decimal mode: the instruction runs and uses one free value (93 U6). -/
theorem test_nonDecimal_digit_runs :
    after .addA_B (abState 0x1A#8 0x01#8 0xDC#8) (fun t => (t.freeIdx, t.b)) = some (1, 0x01#8) := by decide

/-! ### 8-bit logic (95 E26 to E31 and section 2.1): result, SC; V = C = 1 before -/

theorem test_and_A_B :
    [(0x3B#8, 0x61#8), (0x5A#8, 0xA5#8), (0xD6#8, 0x93#8)].map (fun (a, b) => after .andA_B (abState a b 0xC6#8) aSC)
    = [some (0x21#8, 0xC6#8), some (0x00#8, 0xC7#8), some (0x92#8, 0xCE#8)] := by decide

theorem test_or_xor_A_B :
    [after .orA_B (abState 0x86#8 0x41#8 0xC6#8) aSC, after .orA_B (abState 0x32#8 0x6C#8 0xC6#8) aSC,
      after .xorA_B (abState 0x7A#8 0xB6#8 0xC6#8) aSC, after .xorA_B (abState 0xAA#8 0xAA#8 0xC6#8) aSC]
    = [some (0xC7#8, 0xCE#8), some (0x7E#8, 0xC6#8), some (0xCC#8, 0xCE#8), some (0x00#8, 0xC7#8)] := by decide

theorem test_bit_and_cpl :
    [after .bitA_B (abState 0xD6#8 0x93#8 0xC6#8) aSC, after .bitA_B (abState 0x7F#8 0x80#8 0xC6#8) aSC,
      after .cplA (abState 0xFF#8 0x00#8 0xC6#8) aSC, after .cplA (abState 0xA5#8 0x00#8 0xC6#8) aSC]
    = [some (0xD6#8, 0xCE#8), some (0x7F#8, 0xC7#8), some (0x00#8, 0xC7#8), some (0x5A#8, 0xC6#8)] := by decide

/-- 95 E29: all eight bits are written, and interrupts are held off (60_exceptions.md R606). -/
theorem test_SC_destinations :
    [after (.andSC_imm 0x93#8) (abState 0x00#8 0x00#8 0xD6#8) scHold,
      after (.orSC_imm 0x6C#8) (abState 0x00#8 0x00#8 0x32#8) scHold,
      after (.xorSC_imm 0xB6#8) (abState 0x00#8 0x00#8 0x7A#8) scHold,
      after (.ldSC_imm 0x42#8) (abState 0x00#8 0x00#8 0x5A#8) scHold,
      after .ldSC_A (abState 0x42#8 0x00#8 0x5A#8) scHold]
    = [some (0x92#8, true), some (0x7E#8, true), some (0xCC#8, true), some (0x42#8, true), some (0x42#8, true)] := by decide

/-! ### Rotates and shifts (95 E39 and section 2.1): result, SC -/

theorem test_rotates :
    [after .rlA (abState 0xA2#8 0x00#8 0xC6#8) aSC, after .rlcA (abState 0x3B#8 0x00#8 0xC6#8) aSC,
      after .rrA (abState 0xD4#8 0x00#8 0xC6#8) aSC, after .rrcA (abState 0xD7#8 0x00#8 0xC4#8) aSC]
    = [some (0x45#8, 0xC6#8), some (0x76#8, 0xC4#8), some (0xEA#8, 0xCC#8), some (0xEB#8, 0xCE#8)] := by decide

theorem test_shifts :
    [after .slaA (abState 0x90#8 0x00#8 0xC0#8) aSC, after .slaA (abState 0xC0#8 0x00#8 0xC4#8) aSC,
      after .sllA (abState 0x90#8 0x00#8 0xC0#8) aSC, after .sraA (abState 0xB9#8 0x00#8 0xC4#8) aSC,
      after .srlA (abState 0x6D#8 0x00#8 0xC4#8) aSC]
    = [some (0x20#8, 0xC6#8), some (0x80#8, 0xCA#8), some (0x20#8, 0xC2#8), some (0xDC#8, 0xCA#8), some (0x36#8, 0xC6#8)] := by
  decide

/-! ### PACK, UPCK, SEP (95 E1, E5, E38) -/

theorem test_pack : after .pack (pairState 0x38C4#16 0x0000#16 0xC2#8) (fun t => t.reg16 .ba) = some 0x3884#16 := by decide
theorem test_upck : after .upck (abState 0x84#8 0x00#8 0xC2#8) (fun t => t.reg16 .ba) = some 0x0804#16 := by decide
theorem test_sep :
    [after .sep (pairState 0x5C76#16 0x0000#16 0xC2#8) fun t => t.reg16 .ba,
      after .sep (pairState 0x42A5#16 0x0000#16 0xC2#8) fun t => t.reg16 .ba]
    = [some 0x0076#16, some 0xFFA5#16] := by decide

/-! ### 16-bit arithmetic (95 E33 to E37 and section 2.1): result, SC -/

theorem test_add16 :
    [(0x1380#16, 0xEC80#16), (0x5218#16, 0x4174#16), (0x5342#16, 0xC32A#16)].map
      (fun (x, y) => after .addBA_HL (pairState x y 0xF0#8) baSC)
    = [some (0x0000#16, 0xF3#8), some (0x938C#16, 0xFC#8), some (0x166C#16, 0xF2#8)] := by decide

theorem test_adc16_sbc16 :
    [after .adcBA_HL (pairState 0x7FFF#16 0x0000#16 0xC2#8) baSC,
      after .adcBA_HL (pairState 0x0099#16 0x0001#16 0xD0#8) baSC,
      after .sbcBA_HL (pairState 0x63C2#16 0x2125#16 0x02#8) baSC,
      after .sbcBA_HL (pairState 0x8000#16 0x7FFF#16 0xC2#8) baSC]
    = [some (0x8000#16, 0xCC#8), some (0x009A#16, 0xD0#8), some (0x429C#16, 0x00#8), some (0x0000#16, 0xC5#8)] := by decide

theorem test_sub16 :
    [(0x63C2#16, 0x2125#16), (0xC261#16, 0x5A32#16), (0x205C#16, 0x7120#16)].map
      (fun (x, y) => after (.subIY_imm y) { s0 with iy := x, sc := 0x00#8 } fun t => (t.iy, t.sc))
    = [some (0x429D#16, 0x00#8), some (0x682F#16, 0x04#8), some (0xAF3C#16, 0x0A#8)] := by decide

theorem test_cp16 :
    [(0x3F71#16, 0x145A#16), (0x53D1#16, 0x53D1#16), (0xA291#16, 0x632E#16), (0x2862#16, 0x4C25#16)].map
      (fun (x, y) => after (.cpSP_imm y) { s0 with sp := x, sc := 0x00#8 } fun t => (t.sp, t.sc))
    = [some (0x3F71#16, 0x00#8), some (0x53D1#16, 0x01#8), some (0xA291#16, 0x04#8), some (0x2862#16, 0x0A#8)] := by decide

theorem test_inc16_dec16_write_only_Z :
    [after .incHL (pairState 0x0000#16 0xFFFF#16 0xCE#8) hlSC,
      after .decHL (pairState 0x0000#16 0x8000#16 0xC1#8) hlSC]
    = [some (0x0000#16, 0xCF#8), some (0x7FFF#16, 0xC0#8)] := by decide

/-! ### Transfers (95 E10, E38; the effective addresses of S0 by 20_memory.md R66, R68) -/

/-- [HL] = 01:8104, [IX+FBH] = 02:7FFB, [IY+L] = 03:9004, [BR:6EH] = 01:836E, [126EH] = 01:126E. -/
theorem test_load8_from_memory :
    [.ldB_atHL, .ldB_atIXdd 0xFB#8, .ldB_atIYL, .ldB_atBRll 0x6E#8, .ldB_athhll 0x126E#16].map
      (fun i => after i (s0 [(0x1126E, 0x45#8), (0x18104, 0x41#8), (0x1836E, 0x44#8), (0x27FFB, 0x42#8), (0x39004, 0x43#8)])
        fun t => (t.b, t.sc))
    = [some (0x41#8, 0xC2#8), some (0x42#8, 0xC2#8), some (0x43#8, 0xC2#8), some (0x44#8, 0xC2#8), some (0x45#8, 0xC2#8)] := by
  decide

theorem test_store8_to_memory :
    [.ld_atHL_A, .ld_atIXL_A, .ld_atBRll_imm 0x6E#8 0x3C#8, .ld_atIY_atIX].map
      (fun i => after i (s0 [(0x28000, 0x77#8)]) fun t => t.mem)
    = [some [(0x18104, 0x5A#8), (0x28000, 0x77#8)], some [(0x28000, 0x77#8), (0x28004, 0x5A#8)],
      some [(0x1836E, 0x3C#8), (0x28000, 0x77#8)], some [(0x28000, 0x77#8), (0x39000, 0x77#8)]] := by decide

/-- Low byte at the lower address; at offset FFFFH the high byte is at offset 0000H of the page (20_memory.md R73). -/
theorem test_load16_store16 :
    [after (.ld_athhll_BA 0xFFFF#16) (pairState 0xE964#16 0x8104#16 0xC2#8) fun t => t.mem,
      after .ld_atIX_BA (pairState 0xE964#16 0x8104#16 0xC2#8) fun t => t.mem]
    = [some [(0x10000, 0xE9#8), (0x1FFFF, 0x64#8)], some [(0x28000, 0x64#8), (0x28001, 0xE9#8)]] := by decide

theorem test_load16_forms :
    [after .ldHL_atIX (s0 [(0x28000, 0x64#8), (0x28001, 0xE9#8)]) fun t => t.reg16 .hl,
      after (.ldIX_atSPdd 0xFE#8) (s0 [(0xEFFE, 0x64#8), (0xEFFF, 0xE9#8)]) fun t => t.ix,
      after .ldBA_PC s0 fun t => t.reg16 .ba, after .ldSP_IY s0 fun t => t.sp]
    = [some 0xE964#16, some 0xE964#16, some 0x0102#16, some 0x9000#16] := by decide

theorem test_exchanges_and_swap :
    [after .exA_B (abState 0x82#8 0x49#8 0xC2#8) fun t => t.reg16 .ba,
      after .exBA_IY { pairState 0x35D6#16 0x0000#16 0xC2#8 with iy := 0xC284#16 } fun t => t.reg16 .ba,
      after .exBA_IY { pairState 0x35D6#16 0x0000#16 0xC2#8 with iy := 0xC284#16 } fun t => t.iy,
      after .swapA (abState 0x4C#8 0x00#8 0xC2#8) fun t => t.reg16 .ba]
    = [some 0x8249#16, some 0xC284#16, some 0x35D6#16, some 0x00C4#16] := by decide

theorem test_bank_register_loads :
    [after (.ldNB_imm 0x03#8) s0 fun t => (t.nb, t.inhibitInt), after (.ldEP_imm 0x03#8) s0 fun t => (t.ep, t.inhibitInt),
      after .ldA_YP s0 fun t => (t.a, t.inhibitInt), after .ldXP_A s0 fun t => (t.xp, t.inhibitInt)]
    = [some (0x03#8, true), some (0x03#8, false), some (0x03#8, false), some (0x5A#8, false)] := by decide

/-! ### The stack (95 E40, E41): SP = 0000H before a push -/

theorem test_pushes :
    [after .pushBA { pairState 0x235A#16 0x0000#16 0xC2#8 with sp := 0x0000#16 } fun t => (t.sp, t.mem),
      after .pushIP { s0 with xp := 0x23#8, yp := 0x5A#8, sp := 0x0000#16 } fun t => (t.sp, t.mem)]
    = [some (0xFFFE#16, [(0xFFFE, 0x5A#8), (0xFFFF, 0x23#8)]), some (0xFFFE#16, [(0xFFFE, 0x5A#8), (0xFFFF, 0x23#8)])] := by
  decide

theorem test_push_ALE :
    after .pushALE { s0 with sp := 0x0000#16 } (fun t => (t.sp, t.mem.map Prod.snd))
    = some (0xFFF4#16, [0x03#8, 0x02#8, 0x01#8, 0x83#8, 0x90#8, 0x80#8, 0x04#8, 0x81#8, 0x5A#8, 0x36#8]) := by decide

theorem test_pops :
    [after .popBA { s0 [(0xFFFE, 0x5A#8), (0xFFFF, 0x23#8)] with sp := 0xFFFE#16 } fun t => (t.sp, t.reg16 .ba),
      after .popIP { s0 [(0xFFFE, 0x5A#8), (0xFFFF, 0x23#8)] with sp := 0xFFFE#16 } fun t => (t.sp, word16 t.xp t.yp)]
    = [some (0x0000#16, 0x235A#16), some (0x0000#16, 0x235A#16)] := by decide

theorem test_pop_SC : after .popSC { s0 [(0xFFFF, 0x5A#8)] with sp := 0xFFFF#16 } (fun t => (t.sp, t.sc, t.inhibitInt))
    = some (0x0000#16, 0x5A#8, true) := by decide

/-! ### Branches (95 section 1.5): NB, CB, PC, SP -/

theorem test_relative_jumps :
    [after (.jrs 0x1F#8) (branchState 2#16 0xC0#8) flow, after (.jrsC 0x1F#8) (branchState 2#16 0xC0#8) flow,
      after (.jrsLT 0x1E#8) (branchState 3#16 0xC8#8) flow, after (.jrsLT 0x1E#8) (branchState 3#16 0xC0#8) flow,
      after (.jrl 0x1FFE#16) (branchState 3#16 0xC0#8) flow, after (.jrlZ 0x1FFE#16) (branchState 3#16 0xC0#8) flow]
    = [some (0x02#8, 0x02#8, 0x9020#16, 0x0000#16), some (0x01#8, 0x01#8, 0x9002#16, 0x0000#16),
      some (0x02#8, 0x02#8, 0x9020#16, 0x0000#16), some (0x01#8, 0x01#8, 0x9003#16, 0x0000#16),
      some (0x02#8, 0x02#8, 0xB000#16, 0x0000#16), some (0x01#8, 0x01#8, 0x9003#16, 0x0000#16)] := by decide

theorem test_djr :
    [after (.djrNZ 0xFA#8) { branchState 2#16 0xC0#8 with b := 0x05#8 } flow,
      after (.djrNZ 0xFA#8) { branchState 2#16 0xC0#8 with b := 0x01#8, nb := 0x01#8, cb := 0x02#8 } flow]
    = [some (0x02#8, 0x02#8, 0x8FFB#16, 0x0000#16), some (0x02#8, 0x02#8, 0x9002#16, 0x0000#16)] := by decide

theorem test_indirect_jumps :
    [after .jpHL { branchState 1#16 0xC0#8 with h := 0x87#8, l := 0x65#8 } flow,
      after (.jp_atkk 0x20#8) (branchState 2#16 0xC0#8 [(0x20, 0xCD#8), (0x21, 0xAB#8)]) flow]
    = [some (0x02#8, 0x02#8, 0x8765#16, 0x0000#16), some (0x02#8, 0x02#8, 0xABCD#16, 0x0000#16)] := by decide

theorem test_calls :
    [after (.cars 0x1F#8) (branchState 2#16 0xC0#8) fun t => (flow t, t.mem),
      after (.carlNZ 0x1FFE#16) (branchState 3#16 0xC1#8) fun t => (flow t, t.mem)]
    = [some ((0x02#8, 0x02#8, 0x9020#16, 0xFFFD#16), [(0xFFFD, 0x02#8), (0xFFFE, 0x90#8), (0xFFFF, 0x01#8)]),
      some ((0x01#8, 0x01#8, 0x9003#16, 0x0000#16), [])] := rfl

/-- Minimum mode stacks two bytes. -/
theorem test_call_indirect :
    after (.call_athhll 0x2000#16) { branchState 3#16 0xC0#8 [(0x32000, 0xCD#8), (0x32001, 0xAB#8)] with mode := .minimum }
      (fun t => (flow t, t.mem.take 2))
    = some ((0x02#8, 0x02#8, 0xABCD#16, 0xFFFE#16), [(0xFFFE, 0x03#8), (0xFFFF, 0x90#8)]) := by decide

theorem test_int :
    after (.int_atkk 0x20#8) (branchState 2#16 0x5A#8 [(0x20, 0xCD#8), (0x21, 0xAB#8)]) (fun t => (flow t, t.sc, t.mem.drop 2))
    = some ((0x02#8, 0x02#8, 0xABCD#16, 0xFFFC#16), 0x5A#8,
      [(0xFFFC, 0x5A#8), (0xFFFD, 0x02#8), (0xFFFE, 0x90#8), (0xFFFF, 0x01#8)]) := by decide

theorem test_ret_rets :
    [.ret, .rets].map (fun i => after i { branchState 0#16 0xC0#8 [(0xFFFD, 0x03#8), (0xFFFE, 0x90#8), (0xFFFF, 0x01#8)] with
      sp := 0xFFFD#16, cb := 0x02#8 } flow)
    = [some (0x01#8, 0x01#8, 0x9003#16, 0x0000#16), some (0x01#8, 0x01#8, 0x9005#16, 0x0000#16)] := by decide

theorem test_rete :
    after .rete { branchState 0#16 0x91#8 [(0xFFFC, 0x54#8), (0xFFFD, 0x03#8), (0xFFFE, 0x90#8), (0xFFFF, 0x01#8)] with
      sp := 0xFFFC#16, cb := 0x02#8 } (fun t => (flow t, t.sc, t.inhibitInt))
    = some ((0x01#8, 0x01#8, 0x9003#16, 0x0000#16), 0x54#8, true) := by decide

/-! ### Exceptions, standby, reset (95 section 2.12) -/

/-- X1, step 2. -/
theorem test_nmi_entry :
    afterStep (excState 0x02#8 0xFF#8 0xFF#8 { Pins.quiet with nmiEdge := true })
      (fun t => (flow t, t.sc, t.nmiPending, [0xEFFC, 0xEFFD, 0xEFFE, 0xEFFF].map t.readMem))
    = some ((0x02#8, 0x01#8, 0x0300#16, 0xEFFC#16), 0xC2#8, false, [0x02#8, 0x00#8, 0x81#8, 0x01#8]) := by decide

/-- X3, steps 1 and 2: IRQ1 is not above mask level 1, IRQ2 is. -/
theorem test_irq_levels :
    [afterStep (excState 0x42#8 0xFF#8 0xFF#8 { Pins.quiet with irq1 := true }) fun t => (flow t, t.sc),
      afterStep (excState 0x42#8 0xFF#8 0xFF#8 { Pins.quiet with irq1 := true, irq2 := true, irqVector := 0x10#8 })
        fun t => (flow t, t.sc)]
    = [some ((0x02#8, 0x01#8, 0x8101#16, 0xF000#16), 0x42#8), some ((0x02#8, 0x01#8, 0x0400#16, 0xEFFC#16), 0x82#8)] := by decide

/-- X4, step 1: IMASK masks NMI, which stays pending. -/
theorem test_imask_masks_nmi :
    afterStep (excState 0x02#8 0xFF#8 0xFF#8 { Pins.quiet with nmiEdge := true, imask := true }) (fun t => (flow t, t.nmiPending))
    = some ((0x02#8, 0x01#8, 0x8101#16, 0xF000#16), true) := by decide

/-- X5, step 2: the instruction after one that holds interrupts off runs first. -/
theorem test_inhibit_lasts_one_instruction :
    afterStep { excState 0x02#8 0xFF#8 0xFF#8 { Pins.quiet with irq1 := true, irqVector := 0x10#8 } with inhibitInt := true }
      (fun t => (flow t, t.inhibitInt)) = some ((0x02#8, 0x01#8, 0x8101#16, 0xF000#16), false) := by decide

/-- X6: the zero-division exception is part of the DIV's step and cannot be masked. -/
theorem test_zero_division :
    afterStep { excState 0xC2#8 0xCE#8 0xD9#8 { Pins.quiet with imask := true } with a := 0x00#8 }
      (fun t => (flow t, t.sc, t.popped8, t.drop8.popped16))
    = some ((0x02#8, 0x01#8, 0x0200#16, 0xEFFC#16), 0xCC#8, 0xCC#8, 0x8102#16) := by decide

/-- X7: HALT waits under a masked request, and an accepted one ends it. -/
theorem test_halt_waits_and_wakes :
    [afterStep { excState 0x82#8 0xFF#8 0xFF#8 { Pins.quiet with irq2 := true } with runState := .halted } fun t => (t.pc, t.runState),
      afterStep { excState 0x82#8 0xFF#8 0xFF#8 { Pins.quiet with irq3 := true, irqVector := 0x12#8 } with runState := .halted }
        fun t => (t.pc, t.runState)]
    = [some (0x8100#16, .halted), some (0x0500#16, .running)] := by decide

/-- R660: at a reset the vector at 000000H is loaded whatever the run state. -/
theorem test_reset_during_run :
    afterStep { excState 0x02#8 0xFF#8 0xFF#8 { Pins.quiet with reset := true } with runState := .sleeping }
      (fun t => (t.sc, t.nb, t.cb, t.ep, t.pc, t.runState)) = some (0xC0#8, 0x01#8, 0x01#8, 0x00#8, 0x0100#16, .running) := by decide

/-- An undefined code leaves the machine stuck (93 U1). -/
theorem test_undefined_code_is_stuck :
    step (excState 0x02#8 0xCF#8 0x10#8 Pins.quiet) = .fault (.undefinedCode (.undefinedSecond 0xCF#8 0x10#8)) := rfl

/-! ### A state and operands that meet the hypotheses of each obligation, clause by clause

`running` is about to run the NOP at 8100H with quiet inputs. A conclusion that is an existence of a next state is shown
by `⟨_, rfl⟩`. -/

/-- S0 about to run the NOP at 8100H. -/
def running : State := excState 0x02#8 0xFF#8 0xFF#8 Pins.quiet

/-- S0 with a requested interrupt and level 0 in the mask. -/
def requesting (p : Pins) : State := excState 0x02#8 0xFF#8 0xFF#8 p

/-- S0 on a CPU without banks and pages. -/
def unbanked : State := { s0 with model := .model1 }

theorem witness_DecodedBytesAreTheEncoding :
    decode [0xCE#8, 0x40#8, 0xFB#8, 0xFF#8] = .ok (.ldA_atIXdd 0xFB#8, 3) := rfl

theorem witness_StepRunsDecodedInstruction_ok :
    running.sample.pins.reset = false ∧ running.sample.runState = .running ∧ running.sample.pick = none ∧
      decode running.sample.fetchBytes = .ok (.nop, 1) ∧ running.sample.prefetchUnsure = false :=
  ⟨rfl, rfl, rfl, rfl, rfl⟩

/-- An acceptable IRQ1 is held off, and the last store went to another byte. -/
theorem witness_StepRunsDecodedInstruction_held_off :
    ∃ s : State, s.sample.pins.reset = false ∧ s.sample.runState = .running ∧ s.sample.inhibitInt = true ∧
      s.sample.pick = some .irq1 ∧ s.sample.lateStore = some (0x8101, 0x00#8) ∧ s.sample.prefetchUnsure = false ∧
      decode s.sample.fetchBytes = .ok (.nop, 1) :=
  ⟨{ requesting { Pins.quiet with irq1 := true } with inhibitInt := true, lateStore := some (0x8101, 0x00#8) },
    rfl, rfl, rfl, rfl, rfl, rfl, rfl⟩

/-- The last store went to the first byte of the instruction, with the value it already had. -/
theorem witness_StepRunsDecodedInstruction_unsure :
    ∃ s : State, s.sample.pins.reset = false ∧ s.sample.runState = .running ∧ s.sample.pick = none ∧
      s.sample.prefetchUnsure = true ∧ decode s.sample.fetchBytes = .ok (.nop, 1) := by
  refine ⟨{ running with lateStore := some (0x8100, 0xFF#8) }, rfl, rfl, rfl, rfl, ?_⟩
  show decode ((if (true && Config.prefetchOld 0) = true then 0xFF#8 else 0xFF#8) :: _) = _
  rw [ite_self]
  rfl

theorem witness_StepRunsDecodedInstruction_error :
    ∃ s : State, s.sample.pins.reset = false ∧ s.sample.runState = .running ∧ s.sample.pick = none ∧
      decode s.sample.fetchBytes = .error (.undefinedFirst 0x7C#8) :=
  ⟨excState 0x02#8 0x7C#8 0xFF#8 Pins.quiet, rfl, rfl, rfl, rfl⟩

/-- A step that completes: its state, and the script of inputs empty or not. -/
theorem witness_a_step_completes :
    (∃ t, step running = .next t) ∧ running.env = Pins.quiet :: [] ∧ (∃ t, step { running with env := [] } = .next t) :=
  ⟨⟨_, rfl⟩, rfl, ⟨_, rfl⟩⟩

/-- An edge of NMI that enters at once, and one that stays pending under IMASK. -/
theorem witness_InputsTakenOncePerStep_nmi :
    (∃ t, step (requesting { Pins.quiet with nmiEdge := true }) = .next t ∧ t.nmiPending = false) ∧
    ∃ t, step (requesting { Pins.quiet with nmiEdge := true, imask := true }) = .next t ∧ t.nmiPending = true :=
  ⟨⟨_, rfl, rfl⟩, ⟨_, rfl, rfl⟩⟩

/-- The invariant holds in a state with bytes at both ends of memory, and a step completes there. -/
theorem witness_MemoryInvariantKept :
    ({ s0 [(0, 0x01#8), (0x102, 0xFF#8), (2 ^ 24 - 1, 0x01#8)] with pins := Pins.quiet } : State).MemoryInv ∧
      ∃ t, step { s0 [(0, 0x01#8), (0x102, 0xFF#8), (2 ^ 24 - 1, 0x01#8)] with pins := Pins.quiet } = .next t :=
  ⟨⟨by decide, by decide⟩, ⟨_, rfl⟩⟩

theorem witness_InstructionCompletesExactlyWhenAvailable :
    Instr.mlt.wellFormed s0.model = true ∧ Instr.mlt.wellFormed { s0 with model := .model0 }.model = false := ⟨rfl, rfl⟩

theorem witness_OnlyInhibitSetHoldsInterruptsOff :
    s0.inhibitInt = false ∧ (∃ t, exec (.ldNB_imm 0x03#8) s0 = .next t) ∧ ∃ t, exec .pushSC s0 = .next t :=
  ⟨rfl, ⟨_, rfl⟩, ⟨_, rfl⟩⟩

/-- DIV by zero is among the instructions that keep the mode bits. -/
theorem witness_ModeBitsWrittenOnlyBySCInstructions :
    writesWholeSC .div = false ∧ ∃ t, exec .div { s0 with a := 0x00#8 } = .next t := ⟨rfl, ⟨_, rfl⟩⟩

/-- A DIV that divides, under every clause; and the DIV by zero, under the clauses of CB and NB. -/
theorem witness_BanksPCAndSPWrittenOnlyByTheirInstructions :
    isBranch .div = false ∧ writesNB .div = false ∧ writesSP .div = false ∧
    (¬ (Instr.div = .div ∧ s0.a = 0#8) ∧ ∃ t, exec .div s0 = .next t) ∧
    ∃ t, exec .div { s0 with a := 0x00#8 } = .next t :=
  ⟨rfl, rfl, rfl, ⟨by decide, ⟨_, rfl⟩⟩, ⟨_, rfl⟩⟩

/-- Taken, not taken, and a return. -/
theorem witness_BanksAgreeAfterEveryBranch :
    s0.maxMode = true ∧ (isBranch (.jrs 0x1F#8) = true ∧ ∃ t, exec (.jrs 0x1F#8) s0 = .next t) ∧
      (isBranch (.jrsZ 0x1F#8) = true ∧ ∃ t, exec (.jrsZ 0x1F#8) s0 = .next t) ∧
      (isBranch .ret = true ∧ ∃ t, exec .ret s0 = .next t) :=
  ⟨rfl, ⟨rfl, ⟨_, rfl⟩⟩, ⟨rfl, ⟨_, rfl⟩⟩, rfl, ⟨_, rfl⟩⟩

/-- A jump taken, a call not taken. -/
theorem witness_BankTransferAtBranches_relative :
    (RelativeJump (.jrsC 0x1F#8) (some .c) (signExtend8 0x1F#8) ∧ (some Condition.c).elim true s0.holds = true ∧
      ∃ t, exec (.jrsC 0x1F#8) s0 = .next t) ∧
    (RelativeCall (.carlZ 0x1FFE#16) (some .z) 0x1FFE#16 ∧ (some Condition.z).elim true s0.holds = false ∧
      ∃ t, exec (.carlZ 0x1FFE#16) s0 = .next t) :=
  ⟨⟨.jrsC _, rfl, ⟨_, rfl⟩⟩, .carlZ _, rfl, ⟨_, rfl⟩⟩

/-- DJR with B = 0, which branches, and with B = 1, which does not; and the four indirect branches. -/
theorem witness_BankTransferAtBranches_others :
    (∃ t, exec (.djrNZ 0xFA#8) { s0 with b := 0x00#8 } = .next t) ∧ (0x00#8 - 1#8 ≠ 0#8) ∧
    (∃ t, exec (.djrNZ 0xFA#8) { s0 with b := 0x01#8 } = .next t) ∧ (0x01#8 - 1#8 = 0#8) ∧
    (∃ t, exec .jpHL s0 = .next t) ∧ (∃ t, exec (.jp_atkk 0xFF#8) s0 = .next t) ∧
    (∃ t, exec (.call_athhll 0xFFFF#16) s0 = .next t) ∧ ∃ t, exec (.int_atkk 0xFF#8) s0 = .next t :=
  ⟨⟨_, rfl⟩, by decide, ⟨_, rfl⟩, by decide, ⟨_, rfl⟩, ⟨_, rfl⟩, ⟨_, rfl⟩, ⟨_, rfl⟩⟩

/-- Each clause, the first at both sides of 8000H. -/
theorem witness_ProgramAddressFormation :
    s0.hasBank = true ∧ (0x7FFF#16).getLsbD 15 = false ∧ (0x8000#16).getLsbD 15 = true ∧ unbanked.hasBank = false ∧
      ({ s0 with cb := 0x02#8 }.hasBank = true ∧ { s0 with cb := 0x02#8 }.cb = 0x02#8) ∧ s0.cb = 0x01#8 :=
  ⟨rfl, rfl, rfl, rfl, ⟨rfl, rfl⟩, rfl⟩

theorem witness_PairsAreViews : s0.hasBank = true := rfl
theorem witness_RegisterLoads8 : RegisterLoad8 (.ldA_atIXdd 0x80#8) .a (.mem (.atIXdd 0x80#8)) := .ldA_atIXdd _
theorem witness_MemoryLoads8 : MemoryLoad8 .ld_atHL_atHL .atHL (.mem .atHL) := .ld_atHL_atHL
theorem witness_BankRegisterLoads :
    (BankRegisterLoad (.ldNB_imm 0xFF#8) .nb (.imm 0xFF#8) ∧ BankRegisterLoad .ldEP_A .ep (.reg .a)) ∧ s0.hasBank = true :=
  ⟨⟨.ldNB_imm _, .ldEP_A⟩, rfl⟩
theorem witness_SCDestinationsWriteWholeSC :
    ((.xorSC_imm 0xFF#8, s0.sc ^^^ 0xFF#8) : Instr × Byte) ∈ [(.ldSC_A, s0.a), (.ldSC_imm 0xFF#8, 0xFF#8),
      (.andSC_imm 0xFF#8, s0.sc &&& 0xFF#8), (.orSC_imm 0xFF#8, s0.sc ||| 0xFF#8), (.xorSC_imm 0xFF#8, s0.sc ^^^ 0xFF#8)] := by
  simp
theorem witness_RegisterLoads16 :
    RegisterLoad16 .ldBA_PC .ba .pc ∧ RegisterLoad16 (.ldSP_athhll 0xFFFF#16) .sp (.mem (.athhll 0xFFFF#16)) :=
  ⟨.ldBA_PC, .ldSP_athhll _⟩
theorem witness_MemoryLoads16 : MemoryLoad16 (.ld_athhll_SP 0xFFFF#16) (.athhll 0xFFFF#16) .sp := .ld_athhll_SP _
theorem witness_ExchangesAndSwapsComplete :
    ((.exBA_SP, .sp) : Instr × Reg16) ∈ [(.exBA_HL, .hl), (.exBA_IX, .ix), (.exBA_IY, .iy), (.exBA_SP, .sp)] := by simp

theorem witness_Arithmetic8Completes :
    Arithmetic8 (.sbcA_atIYdd 0x7F#8) .sbc (.reg .a) (.mem (.atIYdd 0x7F#8)) ∧
      Arithmetic8 .add_atHL_A .add (.mem .atHL) (.reg .a) := ⟨.sbcA_atIYdd _, .add_atHL_A⟩
theorem witness_ComparesComplete :
    Compare8 (.cpBR_imm 0xFF#8) (.reg .br) (.imm 0xFF#8) ∧ Compare16 (.cpSP_imm 0x8000#16) .sp (.imm 0x8000#16) :=
  ⟨.cpBR_imm _, .cpSP_imm _⟩
theorem witness_CountingCompletes :
    Count8 (.dec_atBRll 0xFF#8) (.mem (.atBRll 0xFF#8)) 0xFF#8 ∧ Count16 .decSP .sp 0xFFFF#16 := ⟨.dec_atBRll _, .decSP⟩
theorem witness_Negate8Completes :
    Negate8 .neg_atHL (.mem .atHL) ∧ s0.flagD = false ∧ s0.flagU = false := ⟨.neg_atHL, rfl, rfl⟩
theorem witness_Logic8Completes :
    Logic8 .xor_atHL_A .xor (.mem .atHL) (.reg .a) ∧ Complement8 .cplB (.reg .b) ∧
      BitTest (.bit_atHL_imm 0x80#8) (.mem .atHL) (.imm 0x80#8) := ⟨.xor_atHL_A, .cplB, .bit_atHL_imm _⟩
theorem witness_Shift8Completes : Shift8 .sla_atHL .sla (.mem .atHL) ∧ Shift8 .rlA .rl (.reg .a) := ⟨.sla_atHL, .rlA⟩
theorem witness_MultiplyCompletes : s0.hasMulDiv = true := rfl

/-- The largest quotient that fits, and the smallest that does not. -/
theorem witness_DivideCompletes :
    (∃ s : State, s.hasMulDiv = true ∧ s.a ≠ 0#8 ∧ (s.reg16 .hl).toNat / s.a.toNat = 255) ∧
      ∃ s : State, s.hasMulDiv = true ∧ s.a ≠ 0#8 ∧ (s.reg16 .hl).toNat / s.a.toNat = 256 :=
  ⟨⟨{ s0 with h := 0x00#8, l := 0xFF#8, a := 0x01#8 }, by decide⟩,
    ⟨{ s0 with h := 0x01#8, l := 0x00#8, a := 0x01#8 }, by decide⟩⟩

theorem witness_Arithmetic16Completes :
    Arithmetic16 .adcHL_HL .adc .hl (.reg .hl) ∧ Arithmetic16 (.subSP_imm 0xFFFF#16) .sub .sp (.imm 0xFFFF#16) :=
  ⟨.adcHL_HL, .subSP_imm _⟩
theorem witness_DecimalArithmetic : digitsValid .decimal 0x99#8 0x00#8 = true := rfl
theorem witness_UnpackedArithmetic : digitsValid .unpackedDecimal 0xF9#8 0xA0#8 = true := rfl

/-- The four settings of D and U. -/
theorem witness_ModeDispatchAndNonDecimalDigits :
    [0x00#8, 0x10#8, 0x20#8, 0x30#8].map (fun sc => (abState 0x5A#8 0x36#8 sc).flagD)
      = [false, true, false, true] ∧
    [0x00#8, 0x10#8, 0x20#8, 0x30#8].map (fun sc => (abState 0x5A#8 0x36#8 sc).flagU)
      = [false, false, true, true] := ⟨rfl, rfl⟩

theorem witness_ConditionsAfterCompare :
    (Compare8 .cpA_B (.reg .a) (.reg .b) ∧ ∃ t, exec .cpA_B (abState 0x80#8 0x7F#8 0xC2#8) = .next t) ∧
    (Compare16 .cpBA_HL .ba (.reg .hl) ∧ ∃ t, exec .cpBA_HL (pairState 0x8000#16 0x7FFF#16 0xC2#8) = .next t) :=
  ⟨⟨.cpA_B, ⟨_, rfl⟩⟩, .cpBA_HL, ⟨_, rfl⟩⟩

/-- The longest push and pop where they exist, and the shortest on a CPU without banks. -/
theorem witness_PushesComplete :
    (PushOf .pushALE [.b, .a, .h, .l, .ixHigh, .ixLow, .iyHigh, .iyLow, .br, .ep, .xp, .yp] ∧
      Instr.pushALE.wellFormed s0.model = true) ∧
    (PushOf .pushA [.a] ∧ Instr.pushA.wellFormed unbanked.model = true) := ⟨⟨.pushALE, rfl⟩, .pushA, rfl⟩
theorem witness_PopsComplete :
    (PopOf .popALE [.yp, .xp, .ep, .br, .iyLow, .iyHigh, .ixLow, .ixHigh, .l, .h, .a, .b] ∧
      Instr.popALE.wellFormed s0.model = true) ∧
    (PopOf .popSC [.sc] ∧ Instr.popSC.wellFormed unbanked.model = true) := ⟨⟨.popALE, rfl⟩, .popSC, rfl⟩
theorem witness_PushAllThenPopAllRestores :
    (∃ t, exec .pushALL unbanked = .next t) ∧ ∃ t, exec .pushALE s0 = .next t := ⟨⟨_, rfl⟩, ⟨_, rfl⟩⟩

theorem witness_RelativeJumpsComplete :
    RelativeJump (.jrs 0x80#8) none (signExtend8 0x80#8) ∧ RelativeJump (.jrsNF3 0x7F#8) (some .nf3) (signExtend8 0x7F#8) :=
  ⟨.jrs _, .jrsNF3 _⟩
theorem witness_RelativeCallsComplete :
    RelativeCall (.carl 0x8000#16) none 0x8000#16 ∧ RelativeCall (.carsLE 0x7F#8) (some .le) (signExtend8 0x7F#8) :=
  ⟨.carl _, .carsLE _⟩
theorem witness_ReturnsComplete :
    ((.rete, 1, 0#16, true) : Instr × Nat × Word × Bool) ∈ [(.ret, 0, 0#16, s0.inhibitInt), (.rets, 0, 2#16, s0.inhibitInt),
      (.rete, 1, 0#16, true)] ∧ s0.maxMode = true ∧ { s0 with mode := .minimum }.maxMode = false ∧ unbanked.maxMode = false := by
  simp [s0, unbanked, State.reset, State.maxMode, State.hasBank, CpuModel.hasBank]
theorem witness_NopHaltSlpComplete :
    ((.slp, .sleeping) : Instr × RunState) ∈ [(.nop, s0.runState), (.halt, .halted), (.slp, .sleeping)] := by simp

theorem witness_DivideByZeroEntersException :
    { s0 with a := 0x00#8 }.hasMulDiv = true ∧ { s0 with a := 0x00#8 }.a = 0#8 := ⟨rfl, rfl⟩

/-- Each level, NMI over all three IRQs, and IRQ3 out of HALT just after an instruction that holds interrupts off. -/
theorem witness_StepEntersInterrupt :
    ∀ p ∈ [(({ Pins.quiet with nmiEdge := true, irq3 := true, irq2 := true, irq1 := true } : Pins), IntLevel.nmi),
        ({ Pins.quiet with irq3 := true, irq2 := true }, .irq3), ({ Pins.quiet with irq2 := true }, .irq2),
        ({ Pins.quiet with irq1 := true }, .irq1)],
      (requesting p.1).sample.pins.reset = false ∧ (requesting p.1).sample.pick = some p.2 ∧
        (requesting p.1).sample.runState = .running ∧ (requesting p.1).sample.inhibitInt = false := by decide
theorem witness_StepEntersInterrupt_from_halt :
    ∃ s : State, s.sample.pins.reset = false ∧ s.sample.pick = some .irq3 ∧ s.sample.runState = .halted :=
  ⟨{ requesting { Pins.quiet with irq3 := true } with runState := .halted }, rfl, rfl, rfl⟩

/-- HALT with nothing requested, SLEEP with every request masked by IMASK. -/
theorem witness_StandbyWaits :
    (∃ s : State, s.sample.pins.reset = false ∧ s.sample.runState = .halted ∧ s.sample.pick = none) ∧
      ∃ s : State, s.sample.pins.reset = false ∧ s.sample.runState = .sleeping ∧ s.sample.pick = none :=
  ⟨⟨{ running with runState := .halted }, rfl, rfl, rfl⟩,
    ⟨{ requesting { Pins.quiet with irq3 := true, nmiEdge := true, imask := true } with runState := .sleeping },
      rfl, rfl, rfl⟩⟩
theorem witness_StepResets :
    (requesting { Pins.quiet with reset := true }).sample.pins.reset = true ∧
      (requesting { Pins.quiet with reset := true }).hasBank = true := ⟨rfl, rfl⟩

end Sys2Proof.Tests
end

/-! The binary addition and subtraction of 10_state.md R40, R41, R48 and R49 at every word size: each field of
the result in the form in which the rules state it, and the settlements of the 8-bit and the 16-bit statements.

V is defined by the signed range and not by sign bits. That the two forms agree rests on `msb_ofInt_iff`, which says
when an exact result that is narrowed to the word has its top bit set. -/

namespace Sys2Proof.Proofs

open Sys2Proof Sys2Proof.Machine

/-! ### Signs and the signed range -/

theorem signedOverflow_iff {w : Nat} (x : Int) :
    signedOverflow w x = true ↔ ¬ (-2 ^ (w - 1) ≤ x ∧ x ≤ 2 ^ (w - 1) - 1) := by
  rw [signedOverflow, decide_eq_true_iff]
  omega

theorem msb_iff {w : Nat} (x : BitVec w) : x.msb = true ↔ x.toInt < 0 := by
  rw [BitVec.msb_eq_toInt, decide_eq_true_iff]

/-- The top bit of the bitwise formulas for V: two signs differ, and two other signs differ. -/
theorem topBit_and_xor_iff {w : Nat} (x y z u : BitVec w) :
    ((x ^^^ y) &&& (z ^^^ u)).getLsbD (w - 1) = true ↔
      ¬ (x.msb = true ↔ y.msb = true) ∧ ¬ (z.msb = true ↔ u.msb = true) := by
  rw [← BitVec.msb_eq_getLsbD_last, BitVec.msb_and, BitVec.msb_xor, BitVec.msb_xor, Bool.and_eq_true,
    Bool.xor_iff_ne, Bool.xor_iff_ne, ne_eq, ne_eq, Bool.eq_iff_iff (a := x.msb) (b := y.msb),
    Bool.eq_iff_iff (a := z.msb) (b := u.msb)]

/-- The exact result `x` may be as far out as a sum or difference of two `w`-bit values with carry or borrow can be; its
narrowed form is negative where `x` is negative and in range, and where `x` is above the range. -/
theorem msb_ofInt_iff {w : Nat} (hw : 0 < w) {x : Int} (hlo : -(2 * 2 ^ (w - 1)) ≤ x) (hhi : x < 2 * 2 ^ (w - 1)) :
    (BitVec.ofInt w x).msb = true ↔ (-2 ^ (w - 1) ≤ x ∧ x < 0) ∨ 2 ^ (w - 1) ≤ x := by
  have hdouble : ((2 ^ w : Nat) : Int) = 2 * 2 ^ (w - 1) := by
    push_cast
    exact (mul_pow_sub_one hw.ne' 2).symm
  rw [msb_iff, BitVec.toInt_ofInt, Int.bmod_def, hdouble]
  generalize (2 : Int) ^ (w - 1) = m at hlo hhi ⊢
  by_cases hneg : x < 0
  · have hmod : x % (2 * m) = x + 2 * m := by
      rw [← Int.add_emod_right]
      exact Int.emod_eq_of_lt (by omega) (by omega)
    rw [hmod]
    split <;> omega
  · rw [Int.emod_eq_of_lt (by omega) hhi]
    split <;> omega

/-! ### Addition -/

theorem addBin_res_eq_ofInt {w : Nat} (x y : BitVec w) (cin : Bool) :
    (addBin x y cin).res = BitVec.ofInt w (x.toInt + y.toInt + cin.toNat) := by
  simp [addBin, BitVec.ofNat_add, BitVec.ofInt_add]

/-- The second form of V in R40 and R48: each operand differs in sign from the result. -/
theorem addBin_v_eq_signs {w : Nat} (hw : 0 < w) (x y : BitVec w) (cin : Bool) :
    (addBin x y cin).v = ((x ^^^ (addBin x y cin).res) &&& (y ^^^ (addBin x y cin).res)).getLsbD (w - 1) := by
  have hxlo := BitVec.le_toInt x
  have hxhi := x.toInt_lt
  have hylo := BitVec.le_toInt y
  have hyhi := y.toInt_lt
  have hcin := cin.toNat_le
  have hres := msb_ofInt_iff hw (x := x.toInt + y.toInt + cin.toNat) (by omega) (by omega)
  have hv : (addBin x y cin).v = true ↔ _ := signedOverflow_iff (x.toInt + y.toInt + cin.toNat)
  rw [Bool.eq_iff_iff, hv, topBit_and_xor_iff, addBin_res_eq_ofInt, hres, msb_iff, msb_iff]
  omega

/-- What the addition is, field by field, as R40 and R48 say it. -/
theorem addBin_spec {w : Nat} (hw : 0 < w) (x y : BitVec w) (cin : Bool) :
    (addBin x y cin).res.toNat = (x.toNat + y.toNat + cin.toNat) % 2 ^ w ∧
    ((addBin x y cin).c = true ↔ 2 ^ w ≤ x.toNat + y.toNat + cin.toNat) ∧
    ((addBin x y cin).z = true ↔ (addBin x y cin).res = 0#w) ∧
    (addBin x y cin).n = (addBin x y cin).res.getLsbD (w - 1) ∧
    ((addBin x y cin).v = true ↔
      ¬ (-2 ^ (w - 1) ≤ x.toInt + y.toInt + cin.toNat ∧ x.toInt + y.toInt + cin.toNat ≤ 2 ^ (w - 1) - 1)) ∧
    (addBin x y cin).v =
      ((x ^^^ (addBin x y cin).res) &&& (y ^^^ (addBin x y cin).res)).getLsbD (w - 1) :=
  ⟨BitVec.toNat_ofNat _ _, decide_eq_true_iff, decide_eq_true_iff, BitVec.msb_eq_getLsbD_last _,
    signedOverflow_iff _, addBin_v_eq_signs hw x y cin⟩

/-! ### Subtraction -/

theorem subBin_res_eq_ofInt {w : Nat} (x y : BitVec w) (bin : Bool) :
    (subBin x y bin).res = BitVec.ofInt w (x.toInt - y.toInt - bin.toNat) := by
  simp [subBin, Int.sub_eq_add_neg, BitVec.ofInt_add, BitVec.ofInt_neg]

theorem subBin_res_toNat {w : Nat} (x y : BitVec w) (bin : Bool) :
    ((subBin x y bin).res.toNat : Int) = ((x.toNat : Int) - y.toNat - bin.toNat) % 2 ^ w := by
  have hnonneg := Int.emod_nonneg ((x.toNat : Int) - y.toNat - bin.toNat) (b := 2 ^ w) (by positivity)
  simpa [subBin, BitVec.toNat_ofInt] using hnonneg

/-- The second form of V in R41 and R49: the minuend differs in sign from the subtrahend and from the result. -/
theorem subBin_v_eq_signs {w : Nat} (hw : 0 < w) (x y : BitVec w) (bin : Bool) :
    (subBin x y bin).v = ((x ^^^ y) &&& (x ^^^ (subBin x y bin).res)).getLsbD (w - 1) := by
  have hxlo := BitVec.le_toInt x
  have hxhi := x.toInt_lt
  have hylo := BitVec.le_toInt y
  have hyhi := y.toInt_lt
  have hbin := bin.toNat_le
  have hres := msb_ofInt_iff hw (x := x.toInt - y.toInt - bin.toNat) (by omega) (by omega)
  have hv : (subBin x y bin).v = true ↔ _ := signedOverflow_iff (x.toInt - y.toInt - bin.toNat)
  rw [Bool.eq_iff_iff, hv, topBit_and_xor_iff, subBin_res_eq_ofInt, hres, msb_iff, msb_iff]
  omega

/-- What the subtraction is, field by field, as R41 and R49 say it. -/
theorem subBin_spec {w : Nat} (hw : 0 < w) (x y : BitVec w) (bin : Bool) :
    ((subBin x y bin).res.toNat : Int) = ((x.toNat : Int) - y.toNat - bin.toNat) % 2 ^ w ∧
    ((subBin x y bin).c = true ↔ (x.toNat : Int) - y.toNat - bin.toNat < 0) ∧
    ((subBin x y bin).z = true ↔ (subBin x y bin).res = 0#w) ∧
    (subBin x y bin).n = (subBin x y bin).res.getLsbD (w - 1) ∧
    ((subBin x y bin).v = true ↔
      ¬ (-2 ^ (w - 1) ≤ x.toInt - y.toInt - bin.toNat ∧ x.toInt - y.toInt - bin.toNat ≤ 2 ^ (w - 1) - 1)) ∧
    (subBin x y bin).v = ((x ^^^ y) &&& (x ^^^ (subBin x y bin).res)).getLsbD (w - 1) :=
  ⟨subBin_res_toNat x y bin, decide_eq_true_iff, decide_eq_true_iff, BitVec.msb_eq_getLsbD_last _,
    signedOverflow_iff _, subBin_v_eq_signs hw x y bin⟩

/-! ### The statements at 8 and at 16 bits -/

/-- Settles O37: `addBin_spec` at 8 bits, and the source's examples evaluated. -/
theorem binaryAddition8 : Obligations.BinaryAddition8 :=
  ⟨addBin_spec (w := 8) (by decide), by decide, by decide, by decide⟩

/-- Settles O38: `subBin_spec` at 8 bits, and the source's examples evaluated. -/
theorem binarySubtraction8 : Obligations.BinarySubtraction8 :=
  ⟨subBin_spec (w := 8) (by decide), by decide, by decide, by decide⟩

/-- Settles O39: `addBin_spec` and `subBin_spec` at 16 bits, and the source's examples evaluated. -/
theorem additionAndSubtraction16 : Obligations.AdditionAndSubtraction16 :=
  ⟨addBin_spec (w := 16) (by decide), subBin_spec (w := 16) (by decide), by decide, by decide, by decide⟩

end Sys2Proof.Proofs

/-! INC and DEC on 8 and on 16 bits (42_alu8_arith.md R310 to R317, 44_alu16.md R446 to R449, 10_state.md R50):
all of them add +1 or -1 to their operand and write Z, which `Laws.write8_writeFlags_frame` and
`Laws.setReg16_writeFlags_frame` frame. -/

namespace Sys2Proof.Proofs

open Sys2Proof Sys2Proof.Machine Sys2Proof.Claims Sys2Proof.Laws

/-! ### The shared operations add the delta -/

theorem decrement8_eq_add (s : State) (d : Operand8) :
    s.decrement8 d = (s.write8 d (s.read8 d + 0xFF#8)).writeFlags (zeroFlag (s.read8 d + 0xFF#8)) := by
  have hdelta : s.read8 d - 1#8 = s.read8 d + 0xFF#8 := BitVec.sub_eq_add_neg ..
  rw [State.decrement8, hdelta]

theorem decrement16_eq_add (s : State) (d : Operand16) :
    s.decrement16 d = (s.write16 d (s.read16 d + 0xFFFF#16)).writeFlags (zeroFlag (s.read16 d + 0xFFFF#16)) := by
  have hdelta : s.read16 d - 1#16 = s.read16 d + 0xFFFF#16 := BitVec.sub_eq_add_neg ..
  rw [State.decrement16, hdelta]

/-! ### Which shared operation each instruction is -/

theorem count8_target {i : Instr} {d : Operand8} {delta : Byte} (h : Count8 i d delta) : isTarget d = true := by
  cases h <;> rfl

theorem exec_count8 {i : Instr} {d : Operand8} {delta : Byte} (h : Count8 i d delta) (s : State) :
    exec i s = .next ((s.write8 d (s.read8 d + delta)).writeFlags (zeroFlag (s.read8 d + delta))) := by
  cases h with
  | incA | incB | incL | incH | incBR | inc_atBRll | inc_atHL => rfl
  | decA | decB | decL | decH | decBR | dec_atBRll | dec_atHL =>
    exact congrArg Host.Outcome.next (decrement8_eq_add s _)

theorem exec_count16 {i : Instr} {r : Reg16} {delta : Word} (h : Count16 i r delta) (s : State) :
    exec i s = .next ((s.setReg16 r (s.reg16 r + delta)).writeFlags (zeroFlag (s.reg16 r + delta))) := by
  cases h with
  | incBA | incHL | incIX | incIY | incSP => rfl
  | decBA | decHL | decIX | decIY | decSP =>
    exact congrArg Host.Outcome.next (decrement16_eq_add s (.reg _))

/-! ### The statement -/

/-- Settles O29: each instruction is one write of operand plus delta and of Z, and the frame laws say what that keeps. -/
theorem countingCompletes : Obligations.CountingCompletes := by
  constructor
  · intro i d delta s h
    exact ⟨_, exec_count8 h s, write8_writeFlags_frame s s.freeIdx _ (zeroFlag _) (count8_target h)⟩
  · intro i r delta s h
    exact ⟨_, exec_count16 h s, setReg16_writeFlags_frame s r _ (zeroFlag _)⟩

end Sys2Proof.Proofs

/-! Program addresses (20_memory.md R63): one equation for each area of the logical program space, and the two readings
of PC's top bit that they turn on. -/

namespace Sys2Proof.Proofs

open Sys2Proof Sys2Proof.Machine

/-! ### `Prog(pc)` in each area -/

theorem progAddr_unbanked {s : State} (hbank : s.hasBank = false) (pc : Word) : s.progAddr pc = pc.toNat := by
  simp [State.progAddr, hbank]

theorem progAddr_common {s : State} (hbank : s.hasBank = true) {pc : Word} (hpc : pc.msb = false) :
    s.progAddr pc = pc.toNat := by
  simp [State.progAddr, hbank, hpc]

theorem progAddr_bankArea {s : State} (hbank : s.hasBank = true) {pc : Word} (hpc : pc.msb = true) :
    s.progAddr pc = s.cb.toNat * 0x8000 + pc.toNat % 0x8000 := by
  simp [State.progAddr, hbank, hpc]

/-! ### The top bit of PC -/

theorem toNat_mod_of_common {pc : Word} (hpc : pc.msb = false) : pc.toNat % 0x8000 = pc.toNat := by
  have hlt : 2 * pc.toNat < 2 ^ 16 := BitVec.msb_eq_false_iff_two_mul_lt.mp hpc
  omega

theorem toNat_of_bankArea {pc : Word} (hpc : pc.msb = true) : pc.toNat = 0x8000 + pc.toNat % 0x8000 := by
  have hge : 2 ^ 16 ≤ 2 * pc.toNat := BitVec.msb_eq_true_iff_two_mul_ge.mp hpc
  have hlt := pc.isLt
  omega

/-! ### `Prog(pc)` over the whole logical space -/

/-- The sum that `progAddr` forms is R63's OR: the offset in the bank lies below bit 15. -/
theorem progAddr_eq_fields {s : State} (hbank : s.hasBank = true) (pc : Word) :
    s.progAddr pc =
      (if pc.getLsbD 15 = false then pc.toNat % 0x8000 else s.cb.toNat <<< 15 ||| pc.toNat % 0x8000) := by
  rw [← BitVec.msb_eq_getLsbD_last]
  cases hpc : pc.msb with
  | false => rw [if_pos rfl, progAddr_common hbank hpc, toNat_mod_of_common hpc]
  | true =>
    have hoffset : pc.toNat % 0x8000 < 2 ^ 15 := Nat.mod_lt _ (by decide)
    rw [if_neg (by decide), progAddr_bankArea hbank hpc, ← Nat.shiftLeft_add_eq_or_of_lt hoffset, Nat.shiftLeft_eq]

/-- Programs lie in the lower 8M bytes: A23 is 0 at every fetch. -/
theorem progAddr_lt_two_pow_23 {s : State} (hbank : s.hasBank = true) (pc : Word) : s.progAddr pc < 2 ^ 23 := by
  have hcb := s.cb.isLt
  cases hpc : pc.msb with
  | false => rw [progAddr_common hbank hpc]; omega
  | true => rw [progAddr_bankArea hbank hpc]; omega

/-- With bank 1 selected, as after reset, logical and physical program addresses are the same. -/
theorem progAddr_of_cb_one {s : State} (hbank : s.hasBank = true) (hcb : s.cb = 0x01#8) (pc : Word) :
    s.progAddr pc = pc.toNat := by
  cases hpc : pc.msb with
  | false => exact progAddr_common hbank hpc
  | true =>
    calc s.progAddr pc
      _ = s.cb.toNat * 0x8000 + pc.toNat % 0x8000 := progAddr_bankArea hbank hpc
      _ = 0x8000 + pc.toNat % 0x8000 := by rw [hcb]; rfl
      _ = pc.toNat := (toNat_of_bankArea hpc).symm

/-! ### The statement -/

/-- Settles O17: the equation of each area, and the source's examples evaluated in the bank area. -/
theorem programAddressFormation : Obligations.ProgramAddressFormation := by
  refine ⟨fun s pc hbank => ⟨progAddr_eq_fields hbank pc, ?_⟩, fun s pc hbank => progAddr_unbanked hbank pc,
    fun s hbank hcb => ?_, fun s pc hbank hcb => progAddr_of_cb_one hbank hcb pc⟩
  · exact Nat.testBit_lt_two_pow (progAddr_lt_two_pow_23 hbank pc)
  · have hprog {pc : Word} (hpc : pc.msb = true) : s.progAddr pc = 2 * 0x8000 + pc.toNat % 0x8000 :=
      by rw [progAddr_bankArea hbank hpc, hcb]; rfl
    exact ⟨hprog (by decide), hprog (by decide), hprog (by decide)⟩

end Sys2Proof.Proofs

/-! Encoding and decoding (30_encoding.md R101 to R111). The opcode maps and the encoder say the same thing cell by cell
(`MapEncodes`), which is what a successful decoding needs; the undefined cells are those of R106 to R108. -/

namespace Sys2Proof.Proofs

open Sys2Proof Sys2Proof.Laws

/-! ### What a cell of an opcode map means -/

/-- The instruction of a cell with the operand bytes of `w`, low byte first. -/
def cellInstr : Opcode → Word → Option Instr
  | .undefined, _ => none
  | .op0 i, _ => some i
  | .op1 f, w => some (f (lowByte w))
  | .op16 f, w => some (f w)
  | .op2 f, w => some (f (lowByte w) (highByte w))

/-- The operand bytes that follow the opcode of a cell. -/
def cellOperands : Opcode → Word → List Byte
  | .undefined, _ => []
  | .op0 _, _ => []
  | .op1 _, w => [lowByte w]
  | .op16 _, w => [lowByte w, highByte w]
  | .op2 _, w => [lowByte w, highByte w]

/-- The encoder writes the instructions of cell `c` as the opcode bytes `code` and then the operand bytes. -/
def CellEncodes (w : Word) (code : List Byte) (c : Opcode) : Prop :=
  (cellInstr c w).map encode = (cellInstr c w).map fun _ => code ++ cellOperands c w

/-- The cells of a row, from opcode `k` on, after the extension bytes `ext`. -/
def RowEncodes (w : Word) (ext : List Byte) : Nat → List Opcode → Prop
  | _, [] => True
  | k, c :: row => CellEncodes w (ext ++ [BitVec.ofNat 8 k]) c ∧ RowEncodes w ext (k + 1) row

/-- The rows of a map, from opcode `k` on, after the extension bytes `ext`. -/
def MapEncodes (w : Word) (ext : List Byte) : Nat → List (List Opcode) → Prop
  | _, [] => True
  | k, row :: rows => RowEncodes w ext k row ∧ MapEncodes w ext (k + 16) rows

theorem RowEncodes.get {w : Word} {ext : List Byte} {k : Nat} {row : List Opcode} (h : RowEncodes w ext k row)
    {j : Nat} {c : Opcode} (hc : row[j]? = some c) : CellEncodes w (ext ++ [BitVec.ofNat 8 (k + j)]) c := by
  induction row generalizing k j with
  | nil => simp at hc
  | cons d row ih =>
    cases j with
    | zero => simp at hc; exact hc ▸ h.1
    | succ j => rw [← Nat.succ_add_eq_add_succ]; exact ih h.2 (by simpa using hc)

theorem MapEncodes.get {w : Word} {ext : List Byte} {k : Nat} {map : List (List Opcode)} (h : MapEncodes w ext k map)
    {j : Nat} {row : List Opcode} (hr : map[j]? = some row) : RowEncodes w ext (k + 16 * j) row := by
  induction map generalizing k j with
  | nil => simp at hr
  | cons d map ih =>
    cases j with
    | zero => simp at hr; exact hr ▸ h.1
    | succ j =>
      have hk : k + 16 * (j + 1) = k + 16 + 16 * j := by omega
      rw [hk]
      exact ih h.2 (by simpa using hr)

/-- What holds of every cell of a map holds of the cell that an opcode byte selects. -/
theorem MapEncodes.lookup {w : Word} {ext : List Byte} {map : List (List Opcode)} (h : MapEncodes w ext 0 map)
    (b : Byte) : CellEncodes w (ext ++ [b]) (lookupOpcode map b) := by
  unfold lookupOpcode
  cases hr : map[b.toNat / 16]? with
  | none => rfl
  | some row =>
    cases hc : row[b.toNat % 16]? with
    | none => simp [hc]; rfl
    | some c =>
      have hb : 0 + 16 * (b.toNat / 16) + b.toNat % 16 = b.toNat := by omega
      have hcell := (h.get hr).get hc
      rw [hb, BitVec.ofNat_toNat, BitVec.setWidth_eq] at hcell
      simpa [hc] using hcell

/-! ### The three maps against the encoder -/

theorem firstMap_encodes (w : Word) : MapEncodes w [] 0 firstMap := by
  refine ⟨?_, ?_, ?_, ?_, ?_, ?_, ?_, ?_, ?_, ?_, ?_, ?_, ?_, ?_, ?_, ?_, trivial⟩ <;>
    exact ⟨rfl, rfl, rfl, rfl, rfl, rfl, rfl, rfl, rfl, rfl, rfl, rfl, rfl, rfl, rfl, rfl, trivial⟩

theorem mapCE_encodes (w : Word) : MapEncodes w [0xCE#8] 0 mapCE := by
  refine ⟨?_, ?_, ?_, ?_, ?_, ?_, ?_, ?_, ?_, ?_, ?_, ?_, ?_, ?_, ?_, ?_, trivial⟩ <;>
    exact ⟨rfl, rfl, rfl, rfl, rfl, rfl, rfl, rfl, rfl, rfl, rfl, rfl, rfl, rfl, rfl, rfl, trivial⟩

theorem mapCF_encodes (w : Word) : MapEncodes w [0xCF#8] 0 mapCF := by
  refine ⟨?_, ?_, ?_, ?_, ?_, ?_, ?_, ?_, ?_, ?_, ?_, ?_, ?_, ?_, ?_, ?_, trivial⟩ <;>
    exact ⟨rfl, rfl, rfl, rfl, rfl, rfl, rfl, rfl, rfl, rfl, rfl, rfl, rfl, rfl, rfl, rfl, trivial⟩

/-! ### Decoding -/

/-- A first opcode other than the extension codes selects a cell of the first map (30_encoding.md R105). -/
theorem decode_first {b : Byte} (hCE : b ≠ 0xCE#8) (hCF : b ≠ 0xCF#8) (rest : List Byte) :
    decode (b :: rest) = takeOperands (lookupOpcode firstMap b) (.undefinedFirst b) 1 rest := by
  unfold decode
  simp only [if_neg hCE, if_neg hCF]

/-- Where the encoder agrees with a cell, the operand bytes taken complete the opcode bytes to the encoding. -/
theorem takeOperands_encodes {code rest : List Byte} {c : Opcode} {e : DecodeError} {i : Instr} {n : Nat}
    (h : ∀ w, CellEncodes w code c) (hok : takeOperands c e code.length rest = .ok (i, n)) :
    (code ++ rest).take n = encode i ∧ (encode i).length = n := by
  have hcell (w : Word) (hi : cellInstr c w = some i) : encode i = code ++ cellOperands c w := by
    have hw := h w
    rw [CellEncodes, hi] at hw
    exact Option.some.inj hw
  match c, rest, hok with
  | .op0 j, rest, hok =>
    cases hok
    rw [hcell 0#16 rfl]
    simp [cellOperands]
  | .op1 f, x :: rest, hok =>
    cases hok
    rw [hcell (word16 0#8 x) (by simp [cellInstr])]
    simp [cellOperands, List.take_append]
  | .op16 f, lo :: hi :: rest, hok =>
    cases hok
    rw [hcell (word16 hi lo) rfl]
    simp [cellOperands, List.take_append]
  | .op2 f, x :: y :: rest, hok =>
    cases hok
    rw [hcell (word16 y x) (by simp [cellInstr])]
    simp [cellOperands, List.take_append]

/-- Settles O2: a decoding reads the cell of its opcode, and the encoder agrees with every cell. -/
theorem decodedBytesAreTheEncoding : Obligations.DecodedBytesAreTheEncoding := by
  intro bs i n h
  match bs with
  | [] => cases h
  | b0 :: rest =>
    by_cases hCE : b0 = 0xCE#8
    · subst hCE
      match rest with
      | [] => cases h
      | b1 :: rest => exact takeOperands_encodes (fun w => (mapCE_encodes w).lookup b1) h
    · by_cases hCF : b0 = 0xCF#8
      · subst hCF
        match rest with
        | [] => cases h
        | b1 :: rest => exact takeOperands_encodes (fun w => (mapCF_encodes w).lookup b1) h
      · rw [decode_first hCE hCF] at h
        exact takeOperands_encodes (fun w => (firstMap_encodes w).lookup b0) h

/-- Settles O1: by cases on the instruction. Decoding computes on the encoder's bytes; with a 16-bit operand it puts the
word together again from its two bytes, so there the word is first written as these bytes. -/
theorem decodeOfEncodeIsInstruction : Obligations.DecodeOfEncodeIsInstruction := by
  intro i rest
  cases i with
  | ldA_athhll w | ldB_athhll w | ldL_athhll w | ldH_athhll w | ld_athhll_A w | ld_athhll_B w | ld_athhll_L w
  | ld_athhll_H w | ldBA_imm w | ldHL_imm w | ldIX_imm w | ldIY_imm w | ldSP_imm w | ldBA_athhll w
  | ldHL_athhll w | ldIX_athhll w | ldIY_athhll w | ldSP_athhll w | ld_athhll_BA w | ld_athhll_HL w
  | ld_athhll_IX w | ld_athhll_IY w | ld_athhll_SP w | addA_athhll w | adcA_athhll w | subA_athhll w
  | sbcA_athhll w | cpA_athhll w | andA_athhll w | orA_athhll w | xorA_athhll w | addBA_imm w | addHL_imm w
  | addIX_imm w | addIY_imm w | subBA_imm w | subHL_imm w | subIX_imm w | subIY_imm w | cpBA_imm w | cpHL_imm w
  | cpIX_imm w | cpIY_imm w | adcBA_imm w | adcHL_imm w | sbcBA_imm w | sbcHL_imm w | addSP_imm w | subSP_imm w
  | cpSP_imm w | jrl w | jrlC w | jrlNC w | jrlZ w | jrlNZ w | carl w | carlC w | carlNC w | carlZ w | carlNZ w
  | call_athhll w  =>
    conv_rhs => rw [← word16_bytes w]
    rfl
  | _ => rfl

/-! ### Undefined codes -/

/-- Whether a cell of an opcode map is undefined. -/
def isUndefined : Opcode → Bool
  | .undefined => true
  | .op0 _ => false
  | .op1 _ => false
  | .op16 _ => false
  | .op2 _ => false

/-- Two operand bytes are enough for every cell, so taking them fails on an undefined cell alone. -/
theorem takeOperands_error_iff (c : Opcode) (e : DecodeError) (n : Nat) (x y : Byte) (rest : List Byte) :
    (∃ e', takeOperands c e n (x :: y :: rest) = .error e') ↔ isUndefined c = true := by
  cases c <;> simp [takeOperands, isUndefined]

/-- The undefined first opcodes (30_encoding.md R106); the two extension codes have no cell of their own. -/
theorem firstMap_undefined_iff : ∀ b : Byte, isUndefined (lookupOpcode firstMap b) = true ↔
    (b = 0xCE#8 ∨ b = 0xCF#8) ∨ b = 0x7C#8 ∨ b = 0xFE#8 := by decide

/-- The undefined second opcodes after CEH (30_encoding.md R107). -/
theorem mapCE_undefined_iff : ∀ b : Byte, isUndefined (lookupOpcode mapCE b) = true ↔
    (0x64#8 ≤ b ∧ b ≤ 0x67#8) ∨ (0x6C#8 ≤ b ∧ b ≤ 0x77#8) ∨ (0x7C#8 ≤ b ∧ b ≤ 0x7F#8) ∨
      (0xA9#8 ≤ b ∧ b ≤ 0xAD#8) ∨ b = 0xB3#8 ∨ b = 0xB7#8 ∨ b = 0xBB#8 ∨ (0xDA#8 ≤ b ∧ b ≤ 0xDF#8) := by decide

/-- The undefined second opcodes after CFH (30_encoding.md R108). -/
theorem mapCF_undefined_iff : ∀ b : Byte, isUndefined (lookupOpcode mapCF b) = true ↔
    (0x10#8 ≤ b ∧ b ≤ 0x17#8) ∨ (0x1C#8 ≤ b ∧ b ≤ 0x1F#8) ∨ (0x30#8 ≤ b ∧ b ≤ 0x37#8) ∨
      (0x3C#8 ≤ b ∧ b ≤ 0x3F#8) ∨ (0x46#8 ≤ b ∧ b ≤ 0x47#8) ∨ (0x4E#8 ≤ b ∧ b ≤ 0x5B#8) ∨
      (0x5E#8 ≤ b ∧ b ≤ 0x5F#8) ∨ (0x64#8 ≤ b ∧ b ≤ 0x67#8) ∨ b = 0x69#8 ∨ b = 0x6B#8 ∨ b = 0x6D#8 ∨
      b = 0x6F#8 ∨ (0x79#8 ≤ b ∧ b ≤ 0x7B#8) ∨ (0x7D#8 ≤ b ∧ b ≤ 0xAF#8) ∨ (0xBA#8 ≤ b ∧ b ≤ 0xBB#8) ∨
      (0xBE#8 ≤ b ∧ b ≤ 0xBF#8) ∨ (0xC8#8 ≤ b ∧ b ≤ 0xCF#8) ∨ (0xF6#8 ≤ b ∧ b ≤ 0xF7#8) ∨
      (0xFB#8 ≤ b ∧ b ≤ 0xFD#8) ∨ b = 0xFF#8 := by decide

/-- Settles O3: four bytes fail to decode exactly where the cell that their opcode selects is undefined. -/
theorem undefinedCodesAreRejected : Obligations.UndefinedCodesAreRejected := by
  intro b0 b1 b2 b3
  by_cases hCE : b0 = 0xCE#8
  · subst hCE
    have hdecode : (∃ e, decode [0xCE#8, b1, b2, b3] = .error e) ↔ _ :=
      (takeOperands_error_iff (lookupOpcode mapCE b1) _ _ b2 b3 []).trans (mapCE_undefined_iff b1)
    rw [hdecode]
    simp
  · by_cases hCF : b0 = 0xCF#8
    · subst hCF
      have hdecode : (∃ e, decode [0xCF#8, b1, b2, b3] = .error e) ↔ _ :=
        (takeOperands_error_iff (lookupOpcode mapCF b1) _ _ b2 b3 []).trans (mapCF_undefined_iff b1)
      rw [hdecode]
      simp
    · rw [decode_first hCE hCF, takeOperands_error_iff, firstMap_undefined_iff]
      simp [hCE, hCF]

/-- Settles O4: the words of the opcode maps evaluated. -/
theorem writtenOutWordsDecode : Obligations.WrittenOutWordsDecode :=
  ⟨rfl, rfl, rfl, rfl, rfl, rfl, rfl, rfl, rfl, rfl, rfl, rfl, rfl, rfl, rfl⟩

end Sys2Proof.Proofs


/-! The instructions by family. Every instruction belongs to a family of the statements or stands alone
(`inFamily`), and a lemma per family says which shared operation its instructions are. What holds of every
instruction is proved family by family. -/

namespace Sys2Proof.Proofs

open Sys2Proof Sys2Proof.Machine Sys2Proof.Claims Sys2Proof.Laws

/-! ### The families -/

/-- The instructions with SC as destination and the value that SC takes (40_transfer8.md R134, R143;
43_alu8_logic.md R351). -/
inductive SCDestination : Instr → (State → Byte) → Prop where
  | ldSC_A : SCDestination .ldSC_A State.a
  | ldSC_imm (nn : Byte) : SCDestination (.ldSC_imm nn) fun _ => nn
  | andSC_imm (nn : Byte) : SCDestination (.andSC_imm nn) fun s => s.sc &&& nn
  | orSC_imm (nn : Byte) : SCDestination (.orSC_imm nn) fun s => s.sc ||| nn
  | xorSC_imm (nn : Byte) : SCDestination (.xorSC_imm nn) fun s => s.sc ^^^ nn

/-- EX BA and the register that BA is exchanged with (41_transfer16.md R232). -/
inductive PairExchange : Instr → Reg16 → Prop where
  | exBA_HL : PairExchange .exBA_HL .hl
  | exBA_IX : PairExchange .exBA_IX .ix
  | exBA_IY : PairExchange .exBA_IY .iy
  | exBA_SP : PairExchange .exBA_SP .sp

/-- The families that make up the instruction set. -/
inductive InFamily : Instr → Prop where
  | registerLoad8 {i : Instr} {r : Reg8} {x : Operand8} (h : RegisterLoad8 i r x) : InFamily i
  | memoryLoad8 {i : Instr} {m : MemOperand} {x : Operand8} (h : MemoryLoad8 i m x) : InFamily i
  | bankRegisterLoad {i : Instr} {r : Reg8} {x : Operand8} (h : BankRegisterLoad i r x) : InFamily i
  | sCDestination {i : Instr} {v : State → Byte} (h : SCDestination i v) : InFamily i
  | registerLoad16 {i : Instr} {r : Reg16} {x : Operand16} (h : RegisterLoad16 i r x) : InFamily i
  | memoryLoad16 {i : Instr} {m : MemOperand} {r : Reg16} (h : MemoryLoad16 i m r) : InFamily i
  | exA_B : InFamily .exA_B
  | exA_atHL : InFamily .exA_atHL
  | swapA : InFamily .swapA
  | swap_atHL : InFamily .swap_atHL
  | pairExchange {i : Instr} {r : Reg16} (h : PairExchange i r) : InFamily i
  | arithmetic8 {i : Instr} {op : ArithOp} {d x : Operand8} (h : Arithmetic8 i op d x) : InFamily i
  | compare8 {i : Instr} {x y : Operand8} (h : Compare8 i x y) : InFamily i
  | count8 {i : Instr} {d : Operand8} {delta : Byte} (h : Count8 i d delta) : InFamily i
  | negate8 {i : Instr} {d : Operand8} (h : Negate8 i d) : InFamily i
  | logic8 {i : Instr} {op : LogicOp} {d x : Operand8} (h : Logic8 i op d x) : InFamily i
  | bitTest {i : Instr} {x y : Operand8} (h : BitTest i x y) : InFamily i
  | complement8 {i : Instr} {d : Operand8} (h : Complement8 i d) : InFamily i
  | shift8 {i : Instr} {k : ShiftKind} {d : Operand8} (h : Shift8 i k d) : InFamily i
  | pack : InFamily .pack
  | upck : InFamily .upck
  | sep : InFamily .sep
  | mlt : InFamily .mlt
  | div : InFamily .div
  | arithmetic16 {i : Instr} {op : ArithOp} {r : Reg16} {x : Operand16} (h : Arithmetic16 i op r x) : InFamily i
  | compare16 {i : Instr} {r : Reg16} {x : Operand16} (h : Compare16 i r x) : InFamily i
  | count16 {i : Instr} {r : Reg16} {delta : Word} (h : Count16 i r delta) : InFamily i
  | pushOf {i : Instr} {l : List RegByte} (h : PushOf i l) : InFamily i
  | popOf {i : Instr} {l : List RegByte} (h : PopOf i l) : InFamily i
  | relativeJump {i : Instr} {c : Option Condition} {d : Word} (h : RelativeJump i c d) : InFamily i
  | relativeCall {i : Instr} {c : Option Condition} {d : Word} (h : RelativeCall i c d) : InFamily i
  | djrNZ (rr : Byte) : InFamily (.djrNZ rr)
  | jpHL : InFamily .jpHL
  | jp_atkk (kk : Byte) : InFamily (.jp_atkk kk)
  | call_athhll (hhll : Word) : InFamily (.call_athhll hhll)
  | ret : InFamily .ret
  | rete : InFamily .rete
  | rets : InFamily .rets
  | int_atkk (kk : Byte) : InFamily (.int_atkk kk)
  | nop : InFamily .nop
  | halt : InFamily .halt
  | slp : InFamily .slp

/-- The families leave no instruction out. -/
theorem inFamily (i : Instr) : InFamily i := by
  cases i with
  | ldA_A | ldA_B | ldA_L | ldA_H | ldB_A | ldB_B | ldB_L | ldB_H | ldL_A | ldL_B | ldL_L | ldL_H | ldH_A
  | ldH_B | ldH_L | ldH_H | ldA_BR | ldA_SC | ldBR_A | ldA_imm | ldB_imm | ldL_imm | ldH_imm | ldBR_imm
  | ldA_atBRll | ldB_atBRll | ldL_atBRll | ldH_atBRll | ldA_athhll | ldB_athhll | ldL_athhll | ldH_athhll
  | ldA_atHL | ldB_atHL | ldL_atHL | ldH_atHL | ldA_atIX | ldB_atIX | ldL_atIX | ldH_atIX | ldA_atIY | ldB_atIY
  | ldL_atIY | ldH_atIY | ldA_atIXdd | ldB_atIXdd | ldL_atIXdd | ldH_atIXdd | ldA_atIYdd | ldB_atIYdd
  | ldL_atIYdd | ldH_atIYdd | ldA_atIXL | ldB_atIXL | ldL_atIXL | ldH_atIXL | ldA_atIYL | ldB_atIYL | ldL_atIYL
  | ldH_atIYL =>
    exact .registerLoad8 (by constructor)
  | ld_atBRll_A | ld_atBRll_B | ld_atBRll_L | ld_atBRll_H | ld_athhll_A | ld_athhll_B | ld_athhll_L
  | ld_athhll_H | ld_atHL_A | ld_atHL_B | ld_atHL_L | ld_atHL_H | ld_atIX_A | ld_atIX_B | ld_atIX_L | ld_atIX_H
  | ld_atIY_A | ld_atIY_B | ld_atIY_L | ld_atIY_H | ld_atIXdd_A | ld_atIXdd_B | ld_atIXdd_L | ld_atIXdd_H
  | ld_atIYdd_A | ld_atIYdd_B | ld_atIYdd_L | ld_atIYdd_H | ld_atIXL_A | ld_atIXL_B | ld_atIXL_L | ld_atIXL_H
  | ld_atIYL_A | ld_atIYL_B | ld_atIYL_L | ld_atIYL_H | ld_atBRll_imm | ld_atHL_imm | ld_atIX_imm | ld_atIY_imm
  | ld_atBRll_atHL | ld_atBRll_atIX | ld_atBRll_atIY | ld_atHL_atBRll | ld_atHL_atHL | ld_atHL_atIX
  | ld_atHL_atIY | ld_atHL_atIXdd | ld_atHL_atIYdd | ld_atHL_atIXL | ld_atHL_atIYL | ld_atIX_atBRll
  | ld_atIX_atHL | ld_atIX_atIX | ld_atIX_atIY | ld_atIX_atIXdd | ld_atIX_atIYdd | ld_atIX_atIXL
  | ld_atIX_atIYL | ld_atIY_atBRll | ld_atIY_atHL | ld_atIY_atIX | ld_atIY_atIY | ld_atIY_atIXdd
  | ld_atIY_atIYdd | ld_atIY_atIXL | ld_atIY_atIYL =>
    exact .memoryLoad8 (by constructor)
  | ldNB_imm | ldEP_imm | ldXP_imm | ldYP_imm | ldA_NB | ldA_EP | ldA_XP | ldA_YP | ldNB_A | ldEP_A | ldXP_A
  | ldYP_A =>
    exact .bankRegisterLoad (by constructor)
  | ldBA_BA | ldBA_HL | ldBA_IX | ldBA_IY | ldHL_BA | ldHL_HL | ldHL_IX | ldHL_IY | ldIX_BA | ldIX_HL | ldIX_IX
  | ldIX_IY | ldIY_BA | ldIY_HL | ldIY_IX | ldIY_IY | ldBA_PC | ldBA_SP | ldHL_PC | ldHL_SP | ldIX_SP | ldIY_SP
  | ldSP_BA | ldSP_HL | ldSP_IX | ldSP_IY | ldBA_imm | ldHL_imm | ldIX_imm | ldIY_imm | ldSP_imm | ldBA_athhll
  | ldHL_athhll | ldIX_athhll | ldIY_athhll | ldSP_athhll | ldBA_atHL | ldHL_atHL | ldIX_atHL | ldIY_atHL
  | ldBA_atIX | ldHL_atIX | ldIX_atIX | ldIY_atIX | ldBA_atIY | ldHL_atIY | ldIX_atIY | ldIY_atIY | ldBA_atSPdd
  | ldHL_atSPdd | ldIX_atSPdd | ldIY_atSPdd =>
    exact .registerLoad16 (by constructor)
  | ld_athhll_BA | ld_athhll_HL | ld_athhll_IX | ld_athhll_IY | ld_athhll_SP | ld_atHL_BA | ld_atHL_HL
  | ld_atHL_IX | ld_atHL_IY | ld_atIX_BA | ld_atIX_HL | ld_atIX_IX | ld_atIX_IY | ld_atIY_BA | ld_atIY_HL
  | ld_atIY_IX | ld_atIY_IY | ld_atSPdd_BA | ld_atSPdd_HL | ld_atSPdd_IX | ld_atSPdd_IY =>
    exact .memoryLoad16 (by constructor)
  | addA_A | addA_B | addA_imm | addA_atBRll | addA_athhll | addA_atHL | addA_atIX | addA_atIY | addA_atIXdd
  | addA_atIYdd | addA_atIXL | addA_atIYL | add_atHL_A | add_atHL_imm | add_atHL_atIX | add_atHL_atIY | adcA_A
  | adcA_B | adcA_imm | adcA_atBRll | adcA_athhll | adcA_atHL | adcA_atIX | adcA_atIY | adcA_atIXdd
  | adcA_atIYdd | adcA_atIXL | adcA_atIYL | adc_atHL_A | adc_atHL_imm | adc_atHL_atIX | adc_atHL_atIY | subA_A
  | subA_B | subA_imm | subA_atBRll | subA_athhll | subA_atHL | subA_atIX | subA_atIY | subA_atIXdd
  | subA_atIYdd | subA_atIXL | subA_atIYL | sub_atHL_A | sub_atHL_imm | sub_atHL_atIX | sub_atHL_atIY | sbcA_A
  | sbcA_B | sbcA_imm | sbcA_atBRll | sbcA_athhll | sbcA_atHL | sbcA_atIX | sbcA_atIY | sbcA_atIXdd
  | sbcA_atIYdd | sbcA_atIXL | sbcA_atIYL | sbc_atHL_A | sbc_atHL_imm | sbc_atHL_atIX | sbc_atHL_atIY =>
    exact .arithmetic8 (by constructor)
  | cpA_A | cpA_B | cpA_imm | cpA_atBRll | cpA_athhll | cpA_atHL | cpA_atIX | cpA_atIY | cpA_atIXdd
  | cpA_atIYdd | cpA_atIXL | cpA_atIYL | cpB_imm | cpL_imm | cpH_imm | cpBR_imm | cp_atBRll_imm | cp_atHL_A
  | cp_atHL_imm | cp_atHL_atIX | cp_atHL_atIY =>
    exact .compare8 (by constructor)
  | incA | incB | incL | incH | incBR | inc_atBRll | inc_atHL | decA | decB | decL | decH | decBR | dec_atBRll
  | dec_atHL =>
    exact .count8 (by constructor)
  | negA | negB | neg_atBRll | neg_atHL =>
    exact .negate8 (by constructor)
  | andA_A | andA_B | andA_imm | andA_atBRll | andA_athhll | andA_atHL | andA_atIX | andA_atIY | andA_atIXdd
  | andA_atIYdd | andA_atIXL | andA_atIYL | andB_imm | andL_imm | andH_imm | and_atBRll_imm | and_atHL_A
  | and_atHL_imm | and_atHL_atIX | and_atHL_atIY | orA_A | orA_B | orA_imm | orA_atBRll | orA_athhll | orA_atHL
  | orA_atIX | orA_atIY | orA_atIXdd | orA_atIYdd | orA_atIXL | orA_atIYL | orB_imm | orL_imm | orH_imm
  | or_atBRll_imm | or_atHL_A | or_atHL_imm | or_atHL_atIX | or_atHL_atIY | xorA_A | xorA_B | xorA_imm
  | xorA_atBRll | xorA_athhll | xorA_atHL | xorA_atIX | xorA_atIY | xorA_atIXdd | xorA_atIYdd | xorA_atIXL
  | xorA_atIYL | xorB_imm | xorL_imm | xorH_imm | xor_atBRll_imm | xor_atHL_A | xor_atHL_imm | xor_atHL_atIX
  | xor_atHL_atIY =>
    exact .logic8 (by constructor)
  | bitA_B | bitA_imm | bitB_imm | bit_atBRll_imm | bit_atHL_imm =>
    exact .bitTest (by constructor)
  | cplA | cplB | cpl_atBRll | cpl_atHL =>
    exact .complement8 (by constructor)
  | addBA_BA | addBA_HL | addBA_IX | addBA_IY | addHL_BA | addHL_HL | addHL_IX | addHL_IY | adcBA_BA | adcBA_HL
  | adcBA_IX | adcBA_IY | adcHL_BA | adcHL_HL | adcHL_IX | adcHL_IY | subBA_BA | subBA_HL | subBA_IX | subBA_IY
  | subHL_BA | subHL_HL | subHL_IX | subHL_IY | sbcBA_BA | sbcBA_HL | sbcBA_IX | sbcBA_IY | sbcHL_BA | sbcHL_HL
  | sbcHL_IX | sbcHL_IY | addIX_BA | addIX_HL | addIY_BA | addIY_HL | addSP_BA | addSP_HL | subIX_BA | subIX_HL
  | subIY_BA | subIY_HL | subSP_BA | subSP_HL | addBA_imm | addHL_imm | addIX_imm | addIY_imm | subBA_imm
  | subHL_imm | subIX_imm | subIY_imm | adcBA_imm | adcHL_imm | sbcBA_imm | sbcHL_imm | addSP_imm | subSP_imm =>
    exact .arithmetic16 (by constructor)
  | cpBA_BA | cpBA_HL | cpBA_IX | cpBA_IY | cpHL_BA | cpHL_HL | cpHL_IX | cpHL_IY | cpSP_BA | cpSP_HL
  | cpBA_imm | cpHL_imm | cpIX_imm | cpIY_imm | cpSP_imm =>
    exact .compare16 (by constructor)
  | incBA | incHL | incIX | incIY | incSP | decBA | decHL | decIX | decIY | decSP =>
    exact .count16 (by constructor)
  | rlA | rlB | rl_atBRll | rl_atHL | rlcA | rlcB | rlc_atBRll | rlc_atHL | rrA | rrB | rr_atBRll | rr_atHL
  | rrcA | rrcB | rrc_atBRll | rrc_atHL | slaA | slaB | sla_atBRll | sla_atHL | sllA | sllB | sll_atBRll
  | sll_atHL | sraA | sraB | sra_atBRll | sra_atHL | srlA | srlB | srl_atBRll | srl_atHL =>
    exact .shift8 (by constructor)
  | pushA | pushB | pushL | pushH | pushBA | pushHL | pushIX | pushIY | pushBR | pushEP | pushIP | pushSC
  | pushALL | pushALE =>
    exact .pushOf (by constructor)
  | popA | popB | popL | popH | popBA | popHL | popIX | popIY | popBR | popEP | popIP | popSC | popALL | popALE =>
    exact .popOf (by constructor)
  | jrs | jrsC | jrsNC | jrsZ | jrsNZ | jrsLT | jrsLE | jrsGT | jrsGE | jrsV | jrsNV | jrsP | jrsM | jrsF0
  | jrsF1 | jrsF2 | jrsF3 | jrsNF0 | jrsNF1 | jrsNF2 | jrsNF3 | jrl | jrlC | jrlNC | jrlZ | jrlNZ =>
    exact .relativeJump (by constructor)
  | cars | carsC | carsNC | carsZ | carsNZ | carsLT | carsLE | carsGT | carsGE | carsV | carsNV | carsP | carsM
  | carsF0 | carsF1 | carsF2 | carsF3 | carsNF0 | carsNF1 | carsNF2 | carsNF3 | carl | carlC | carlNC | carlZ
  | carlNZ =>
    exact .relativeCall (by constructor)
  | ldSC_A | ldSC_imm | andSC_imm | orSC_imm | xorSC_imm =>
    exact .sCDestination (by constructor)
  | exBA_HL | exBA_IX | exBA_IY | exBA_SP =>
    exact .pairExchange (by constructor)
  | djrNZ _ => exact .djrNZ _
  | jp_atkk _ => exact .jp_atkk _
  | call_athhll _ => exact .call_athhll _
  | int_atkk _ => exact .int_atkk _
  | exA_B => exact .exA_B
  | exA_atHL => exact .exA_atHL
  | swapA => exact .swapA
  | swap_atHL => exact .swap_atHL
  | mlt => exact .mlt
  | div => exact .div
  | pack => exact .pack
  | upck => exact .upck
  | sep => exact .sep
  | jpHL => exact .jpHL
  | ret => exact .ret
  | rete => exact .rete
  | rets => exact .rets
  | nop => exact .nop
  | halt => exact .halt
  | slp => exact .slp

/-! ### Which shared operation each instruction is -/

theorem exec_registerLoad8 {i : Instr} {r : Reg8} {x : Operand8} (h : RegisterLoad8 i r x) (s : State) :
    exec i s = .next (s.load8 (.reg r) x) := by cases h <;> rfl

theorem exec_memoryLoad8 {i : Instr} {m : MemOperand} {x : Operand8} (h : MemoryLoad8 i m x) (s : State) :
    exec i s = .next (s.load8 (.mem m) x) := by cases h <;> rfl

/-- A load of NB holds interrupts off, the other loads that name a bank or page register do not. -/
def bankLoad (s : State) (r : Reg8) (x : Operand8) : State :=
  if r = .nb then (s.load8 (.reg r) x).holdInterrupts else s.load8 (.reg r) x

theorem exec_bankRegisterLoad {i : Instr} {r : Reg8} {x : Operand8} (h : BankRegisterLoad i r x) (s : State) :
    exec i s = s.onBankModels (bankLoad s r x) := by cases h <;> rfl

theorem exec_scDestination {i : Instr} {v : State → Byte} (h : SCDestination i v) (s : State) :
    exec i s = .next (s.writeSC (v s)) := by cases h <;> rfl

theorem exec_registerLoad16 {i : Instr} {r : Reg16} {x : Operand16} (h : RegisterLoad16 i r x) (s : State) :
    exec i s = .next (s.load16 (.reg r) x) := by cases h <;> rfl

theorem exec_memoryLoad16 {i : Instr} {m : MemOperand} {r : Reg16} (h : MemoryLoad16 i m r) (s : State) :
    exec i s = .next (s.load16 (.mem m) (.reg r)) := by cases h <;> rfl

theorem exec_pairExchange {i : Instr} {r : Reg16} (h : PairExchange i r) (s : State) :
    exec i s = .next (s.exchange16 (.reg .ba) (.reg r)) := by cases h <;> rfl

theorem exec_arithmetic8 {i : Instr} {op : ArithOp} {d x : Operand8} (h : Arithmetic8 i op d x) (s : State) :
    exec i s = .next (s.arith8 op d x) := by cases h <;> rfl

theorem exec_compare8 {i : Instr} {x y : Operand8} (h : Compare8 i x y) (s : State) :
    exec i s = .next (s.compare8 x y) := by cases h <;> rfl

theorem exec_negate8 {i : Instr} {d : Operand8} (h : Negate8 i d) (s : State) :
    exec i s = .next (s.negate8 d) := by cases h <;> rfl

theorem exec_logic8 {i : Instr} {op : LogicOp} {d x : Operand8} (h : Logic8 i op d x) (s : State) :
    exec i s = .next (s.logic8 op d x) := by cases h <;> rfl

theorem exec_bitTest {i : Instr} {x y : Operand8} (h : BitTest i x y) (s : State) :
    exec i s = .next (s.testBits x y) := by cases h <;> rfl

theorem exec_complement8 {i : Instr} {d : Operand8} (h : Complement8 i d) (s : State) :
    exec i s = .next (s.complement8 d) := by cases h <;> rfl

theorem exec_shift8 {i : Instr} {k : ShiftKind} {d : Operand8} (h : Shift8 i k d) (s : State) :
    exec i s = .next (s.shift8 k d) := by cases h <;> rfl

theorem exec_arithmetic16 {i : Instr} {op : ArithOp} {r : Reg16} {x : Operand16} (h : Arithmetic16 i op r x)
    (s : State) : exec i s = .next (s.arith16 op (.reg r) x) := by cases h <;> rfl

theorem exec_compare16 {i : Instr} {r : Reg16} {x : Operand16} (h : Compare16 i r x) (s : State) :
    exec i s = .next (s.compare16 (.reg r) x) := by cases h <;> rfl

theorem exec_relativeJump {i : Instr} {c : Option Condition} {d : Word} (h : RelativeJump i c d) (s : State) :
    exec i s = .next (s.branchIf (c.elim true s.holds) (s.pc - 1#16 + d)) := by cases h <;> rfl

theorem exec_relativeCall {i : Instr} {c : Option Condition} {d : Word} (h : RelativeCall i c d) (s : State) :
    exec i s = .next (s.callIf (c.elim true s.holds) (s.pc - 1#16 + d)) := by cases h <;> rfl

/-! ### Instructions that a CPU model may lack (30_encoding.md R110) -/

theorem onBankModels_next {s : State} (hbank : s.hasBank = true) (t : State) : s.onBankModels t = .next t := by
  rw [State.onBankModels, if_pos hbank]

theorem onBankModels_absent {s : State} (hbank : s.hasBank = false) (t : State) :
    s.onBankModels t = .fault (.absentOnModel s.model) := by
  simp [State.onBankModels, hbank]

theorem onMulDivModels_next {s : State} (hmuldiv : s.hasMulDiv = true) (t : State) :
    s.onMulDivModels t = .next t := by
  rw [State.onMulDivModels, if_pos hmuldiv]

theorem onMulDivModels_absent {s : State} (hmuldiv : s.hasMulDiv = false) (t : State) :
    s.onMulDivModels t = .fault (.absentOnModel s.model) := by
  simp [State.onMulDivModels, hmuldiv]

/-- Where an instruction of the CPU models with banks answers a next state, that state is the given one. -/
theorem eq_of_onBankModels {s t u : State} (h : s.onBankModels t = .next u) : u = t := by
  unfold State.onBankModels at h
  split at h <;> cases h
  rfl

theorem eq_of_onMulDivModels {s t u : State} (h : s.onMulDivModels t = .next u) : u = t := by
  unfold State.onMulDivModels at h
  split at h <;> cases h
  rfl

end Sys2Proof.Proofs


/-! Effective addresses, 16-bit accesses and transfers (20_memory.md R66 to R73, 40_transfer8.md, 41_transfer16.md):
each statement is the frame of the shared operation that its family is. -/

namespace Sys2Proof.Proofs

open Sys2Proof Sys2Proof.Machine Sys2Proof.Claims Sys2Proof.Laws

/-! ### Frames through further updates -/

theorem keepsControl_trans {s t u : State} (h : KeepsControl s t) (k : KeepsControl t u) : KeepsControl s u := by
  obtain ⟨hpc, hrun, hhold, hnmi, hmodel, hmode, hpins, henv⟩ := h
  obtain ⟨kpc, krun, khold, knmi, kmodel, kmode, kpins, kenv⟩ := k
  exact ⟨kpc.trans hpc, krun.trans hrun, khold.trans hhold, knmi.trans hnmi, kmodel.trans hmodel, kmode.trans hmode,
    kpins.trans hpins, kenv.trans henv⟩

theorem keepsMem_trans {l : List Nat} {s t u : State} (h : KeepsMem l s t) (k : KeepsMem l t u) : KeepsMem l s u :=
  fun a ha => (k a ha).trans (h a ha)

theorem keepsMem_mono {l m : List Nat} {s t : State} (h : KeepsMem l s t) (k : ∀ a, a ∈ l → a ∈ m) : KeepsMem m s t :=
  fun a ha => h a fun hl => ha (k a hl)

theorem keepsRegs_holdInterrupts {l : List RegByte} {s t : State} (h : KeepsRegs l s t) :
    KeepsRegs l s t.holdInterrupts := by
  intro q hq
  rw [← h q hq]
  cases q <;> rfl

theorem control_holdInterrupts {run : RunState} {hold : Bool} {s t : State} (h : Control run hold s t) :
    Control run true s t.holdInterrupts := ⟨h.1, rfl, h.2.2⟩

/-- The frame of a write of SC by an instruction whose destination it is. -/
theorem writeSC_frame (s : State) (v : Byte) :
    (s.writeSC v).sc = v ∧ KeepsRegs [.sc] s (s.writeSC v) ∧ KeepsMem [] s (s.writeSC v) ∧ (s.writeSC v).pc = s.pc ∧
      Control s.runState true s (s.writeSC v) := by
  refine ⟨rfl, ?_, fun _ _ => rfl, rfl, rfl, rfl, rfl, rfl, rfl, rfl, rfl⟩
  intro q hq
  cases q <;> first | rfl | simp at hq

/-! ### Effective addresses -/

theorem signExtend8_eq_ofInt (x : Byte) : signExtend8 x = BitVec.ofInt 16 x.toInt := rfl

/-- Base plus signed displacement, modulo 2^16 (20_memory.md R68). -/
theorem toNat_add_signExtend8 (base : Word) (dd : Byte) :
    (base + signExtend8 dd).toNat = (((base.toNat : Int) + dd.toInt) % 2 ^ 16).toNat := by
  have hbase : BitVec.ofInt 16 base.toNat = base := by simp
  have hsum : base + signExtend8 dd = BitVec.ofInt 16 (base.toNat + dd.toInt) := by
    rw [BitVec.ofInt_add, hbase, signExtend8_eq_ofInt]
  rw [hsum, BitVec.toNat_ofInt]
  rfl

/-- The sum that `dataAddr` forms is R66's page beside offset. -/
theorem dataAddr_eq_fields (s : State) (page : Byte) (offset : Word) :
    s.dataAddr page offset = (if s.hasBank then page.toNat <<< 16 ||| offset.toNat else offset.toNat) := by
  rw [State.dataAddr, ← Nat.shiftLeft_add_eq_or_of_lt offset.isLt, Nat.shiftLeft_eq]

/-- Settles O16: each form's page and offset by definition, the displaced ones by `toNat_add_signExtend8`. -/
theorem effectiveAddressOfEveryOperand : Obligations.EffectiveAddressOfEveryOperand := by
  intro s dd ll hhll
  refine ⟨rfl, rfl, rfl, ?_, ?_, ?_, ?_, ?_, ?_, rfl, fun m => rfl, dataAddr_eq_fields s⟩
  · exact congrArg (Prod.mk s.xp) (toNat_add_signExtend8 s.ix dd)
  · exact congrArg (Prod.mk s.yp) (toNat_add_signExtend8 s.iy dd)
  · exact congrArg (Prod.mk s.xp) (toNat_add_signExtend8 s.ix s.l)
  · exact congrArg (Prod.mk s.yp) (toNat_add_signExtend8 s.iy s.l)
  · exact congrArg (Prod.mk s.pins.spp) (toNat_add_signExtend8 s.sp dd)
  · exact congrArg (Prod.mk s.ep) (toNat_word16 s.br ll)

/-- Settles O19: `word16` puts the byte at the higher offset on top, and `write16_mem_frame` is the store. -/
theorem sixteenBitAccessIsLittleEndian : Obligations.SixteenBitAccessIsLittleEndian := by
  intro s m v
  obtain ⟨hlow, hhigh, _, hmem, _⟩ := write16_mem_frame s m v
  exact ⟨(toNat_word16 _ _).trans (Nat.add_comm _ _), hlow, hhigh, hmem⟩

/-! ### Loads -/

/-- Settles O20: each load is one write of its register. -/
theorem registerLoads8 : Obligations.RegisterLoads8 := by
  intro i r x s h
  exact ⟨_, exec_registerLoad8 h s, write8_frame s (d := .reg r) (s.read8 x) (by simp)⟩

/-- Settles O21: each store is one write of its operand. -/
theorem memoryLoads8 : Obligations.MemoryLoads8 := by
  intro i m x s h
  exact ⟨_, exec_memoryLoad8 h s, write8_frame s (d := .mem m) (s.read8 x) (by simp)⟩

/-- The load of a bank or page register or from one: a write of the destination, and the hold where that is NB. -/
theorem bankLoad_frame (s : State) (r : Reg8) (x : Operand8) :
    Writes8 (.reg r) (s.read8 x) [] s (bankLoad s r x) ∧ (bankLoad s r x).pc = s.pc ∧
      Control s.runState (decide (r = .nb) || s.inhibitInt) s (bankLoad s r x) := by
  obtain ⟨⟨hval, hregs, hmem⟩, hpc, hctl⟩ := write8_frame s (d := .reg r) (s.read8 x) (by simp)
  by_cases hnb : r = .nb
  · subst hnb
    exact ⟨⟨hval, keepsRegs_holdInterrupts hregs, hmem⟩, hpc, control_holdInterrupts hctl⟩
  · rw [bankLoad, if_neg hnb, decide_eq_false hnb, Bool.false_or]
    exact ⟨⟨hval, hregs, hmem⟩, hpc, hctl⟩

/-- Settles O22: with banks each load is `bankLoad`. -/
theorem bankRegisterLoads : Obligations.BankRegisterLoads := by
  intro i r x s h hbank
  exact ⟨_, (exec_bankRegisterLoad h s).trans (onBankModels_next hbank _), bankLoad_frame s r x⟩

/-- Settles O23: each of the five is `writeSC` of its value. -/
theorem scDestinationsWriteWholeSC : Obligations.SCDestinationsWriteWholeSC := by
  intro s nn i v h
  have hfamily : ∃ f, SCDestination i f ∧ f s = v := by
    simp only [List.mem_cons, List.not_mem_nil, or_false, Prod.mk.injEq] at h
    obtain ⟨rfl, rfl⟩ | ⟨rfl, rfl⟩ | ⟨rfl, rfl⟩ | ⟨rfl, rfl⟩ | ⟨rfl, rfl⟩ := h
    · exact ⟨_, .ldSC_A, rfl⟩
    · exact ⟨_, .ldSC_imm v, rfl⟩
    · exact ⟨_, .andSC_imm nn, rfl⟩
    · exact ⟨_, .orSC_imm nn, rfl⟩
    · exact ⟨_, .xorSC_imm nn, rfl⟩
  obtain ⟨f, hf, rfl⟩ := hfamily
  exact ⟨_, exec_scDestination hf s, writeSC_frame s (f s)⟩

/-- Settles O24: each load is one write of its register. -/
theorem registerLoads16 : Obligations.RegisterLoads16 := by
  intro i r x s h
  exact ⟨_, exec_registerLoad16 h s, setReg16_frame s r (s.read16 x)⟩

/-- Settles O25: each store is one 16-bit write of its operand. -/
theorem memoryLoads16 : Obligations.MemoryLoads16 := by
  intro i m r s h
  exact ⟨_, exec_memoryLoad16 h s, write16_mem_frame s m (s.reg16 r)⟩

/-! ### Nibbles -/

theorem toNat_lowNibble (x : Byte) : (lowNibble x).toNat = x.toNat % 16 := by
  simp [lowNibble, BitVec.extractLsb'_toNat]

theorem toNat_highNibble (x : Byte) : (highNibble x).toNat = x.toNat / 16 := by
  have hlt := x.isLt
  simp only [highNibble, BitVec.extractLsb'_toNat, Nat.shiftRight_eq_div_pow]
  omega

theorem toNat_nibbles (hi lo : BitVec 4) : (hi ++ lo : Byte).toNat = 16 * hi.toNat + lo.toNat := by
  show (hi ++ lo : BitVec (4 + 4)).toNat = _
  rw [BitVec.toNat_append, Nat.shiftLeft_eq, Nat.mul_comm, ← Nat.two_pow_add_eq_or_of_lt lo.isLt]

/-- SWAP in numbers: the two digits change places (40_transfer8.md R185). -/
theorem toNat_swapped (x : Byte) :
    (lowNibble x ++ highNibble x : Byte).toNat = 16 * (x.toNat % 16) + x.toNat / 16 := by
  rw [toNat_nibbles, toNat_lowNibble, toNat_highNibble]

/-! ### Exchanges and swaps -/

theorem exchangeAB_frame (s : State) :
    (s.exchange8 (.reg .a) (.reg .b)).a = s.b ∧ (s.exchange8 (.reg .a) (.reg .b)).b = s.a ∧
      KeepsRegs [.a, .b] s (s.exchange8 (.reg .a) (.reg .b)) ∧ KeepsMem [] s (s.exchange8 (.reg .a) (.reg .b)) ∧
      KeepsControl s (s.exchange8 (.reg .a) (.reg .b)) := by
  refine ⟨rfl, rfl, ?_, fun _ _ => rfl, rfl, rfl, rfl, rfl, rfl, rfl, rfl, rfl⟩
  intro q hq
  cases q <;> first | rfl | simp at hq

/-- EX A,[HL] stores A and then loads the byte that was there (40_transfer8.md R184). -/
theorem exchangeAM_frame (s : State) (m : MemOperand) :
    (s.exchange8 (.reg .a) (.mem m)).a = s.readMem (s.operandAddr m) ∧
      (s.exchange8 (.reg .a) (.mem m)).readMem (s.operandAddr m) = s.a ∧
      KeepsRegs [.a] s (s.exchange8 (.reg .a) (.mem m)) ∧
      KeepsMem [s.operandAddr m] s (s.exchange8 (.reg .a) (.mem m)) ∧
      KeepsControl s (s.exchange8 (.reg .a) (.mem m)) := by
  obtain ⟨⟨hstored, hregs, hmem⟩, hctl⟩ := write8_frame s (d := .mem m) s.a (by simp)
  obtain ⟨⟨hloaded, hregs', hmem'⟩, hctl'⟩ :=
    write8_frame (s.write8 (.mem m) s.a) (d := .reg .a) (s.readMem (s.operandAddr m)) (by simp)
  exact ⟨hloaded, (hmem' _ (by simp)).trans hstored, keepsRegs_trans (keepsRegs_mono hregs (by simp)) hregs',
    keepsMem_trans hmem (keepsMem_mono hmem' (by simp)), keepsControl_trans hctl hctl'⟩

theorem exchangePair_frame (s : State) {r : Reg16} (hr : r ≠ .ba) :
    (s.exchange16 (.reg .ba) (.reg r)).reg16 .ba = s.reg16 r ∧
      (s.exchange16 (.reg .ba) (.reg r)).reg16 r = s.reg16 .ba ∧
      KeepsRegs (.b :: .a :: bytesOf r) s (s.exchange16 (.reg .ba) (.reg r)) ∧
      KeepsMem [] s (s.exchange16 (.reg .ba) (.reg r)) ∧ KeepsControl s (s.exchange16 (.reg .ba) (.reg r)) := by
  obtain ⟨⟨hval, hregs, hmem⟩, hctl⟩ := setReg16_frame s r (s.reg16 .ba)
  obtain ⟨⟨hval', hregs', hmem'⟩, hctl'⟩ := setReg16_frame (s.setReg16 r (s.reg16 .ba)) .ba (s.reg16 r)
  refine ⟨hval', ?_, keepsRegs_trans (keepsRegs_mono hregs ?_) (keepsRegs_mono hregs' ?_), keepsMem_trans hmem hmem',
    keepsControl_trans hctl hctl'⟩
  · exact (reg16_setReg16 _ _ _ _).trans ((if_neg hr).trans hval)
  · simp +contextual
  · simp [bytesOf]

theorem pairExchange_ne_ba {i : Instr} {r : Reg16} (h : PairExchange i r) : r ≠ .ba := by
  cases h <;> simp

/-- Settles O26: the frames of the exchanges, and a swap as a write of the operand with its digits changed over. -/
theorem exchangesAndSwapsComplete : Obligations.ExchangesAndSwapsComplete := by
  intro s
  refine ⟨⟨_, rfl, exchangeAB_frame s⟩, ⟨_, rfl, exchangeAM_frame s .atHL⟩, ⟨_, rfl, ?_⟩, ⟨_, rfl, ?_⟩, ?_⟩
  · obtain ⟨⟨_, hregs, hmem⟩, hctl⟩ := write8_frame s (d := .reg .a) (lowNibble s.a ++ highNibble s.a) (by simp)
    exact ⟨toNat_swapped s.a, hregs, hmem, hctl⟩
  · obtain ⟨⟨hval, hregs, hmem⟩, hctl⟩ := write8_frame s (d := .mem .atHL)
      (lowNibble (s.read8 (.mem .atHL)) ++ highNibble (s.read8 (.mem .atHL))) (by simp)
    exact ⟨(congrArg BitVec.toNat hval).trans (toNat_swapped _), hregs, hmem, hctl⟩
  · intro i r h
    have hfamily : PairExchange i r := by
      simp only [List.mem_cons, List.not_mem_nil, or_false, Prod.mk.injEq] at h
      obtain ⟨rfl, rfl⟩ | ⟨rfl, rfl⟩ | ⟨rfl, rfl⟩ | ⟨rfl, rfl⟩ := h <;> constructor
    exact ⟨_, exec_pairExchange hfamily s, exchangePair_frame s (pairExchange_ne_ba hfamily)⟩

end Sys2Proof.Proofs


/-! The arithmetic that D and U select (10_state.md R42 to R46): decimal digits with carry and borrow, the low nibbles
alone, and what the free values leave fixed on digits above 9. -/

namespace Sys2Proof.Proofs

open Sys2Proof Sys2Proof.Machine Sys2Proof.Claims Sys2Proof.Laws

/-! ### Decimal digits -/

theorem digitSum_spec {x y k : Nat} (hx : x ≤ 9) (hy : y ≤ 9) (hk : k ≤ 1) :
    (digitSum x y k).1 ≤ 9 ∧ (digitSum x y k).2.toNat ≤ 1 ∧
      (digitSum x y k).1 + 10 * (digitSum x y k).2.toNat = x + y + k := by
  unfold digitSum
  split <;> simp <;> omega

theorem digitDiff_spec {x y k : Nat} (hx : x ≤ 9) (hy : y ≤ 9) (hk : k ≤ 1) :
    (digitDiff x y k).1 ≤ 9 ∧ (digitDiff x y k).2.toNat ≤ 1 ∧
      (digitDiff x y k).1 + (y + k) = x + 10 * (digitDiff x y k).2.toNat := by
  unfold digitDiff
  split <;> simp <;> omega

theorem lowDigit_digits {h l : Nat} (hl : l ≤ 9) : lowDigit (BitVec.ofNat 8 (16 * h + l)) = l := by
  rw [lowDigit, BitVec.toNat_ofNat]
  omega

theorem highDigit_digits {h l : Nat} (hh : h ≤ 9) (hl : l ≤ 9) : highDigit (BitVec.ofNat 8 (16 * h + l)) = h := by
  rw [highDigit, BitVec.toNat_ofNat]
  omega

theorem digitsValid_decimal_iff (x y : Byte) : digitsValid .decimal x y = true ↔
    lowDigit x ≤ 9 ∧ highDigit x ≤ 9 ∧ lowDigit y ≤ 9 ∧ highDigit y ≤ 9 := decide_eq_true_iff

theorem digitsValid_unpackedDecimal_iff (x y : Byte) :
    digitsValid .unpackedDecimal x y = true ↔ lowDigit x ≤ 9 ∧ lowDigit y ≤ 9 := decide_eq_true_iff

theorem add8_decimal {x y : Byte} (h : digitsValid .decimal x y = true) (idx : Nat) (c : Bool) :
    add8 .decimal idx x y c = addDec x y c := if_pos h

theorem sub8_decimal {x y : Byte} (h : digitsValid .decimal x y = true) (idx : Nat) (c : Bool) :
    sub8 .decimal idx x y c = subDec x y c := if_pos h

theorem add8_unpackedDecimal {x y : Byte} (h : digitsValid .unpackedDecimal x y = true) (idx : Nat) (c : Bool) :
    add8 .unpackedDecimal idx x y c = addDecUnp x y c := if_pos h

theorem sub8_unpackedDecimal {x y : Byte} (h : digitsValid .unpackedDecimal x y = true) (idx : Nat) (c : Bool) :
    sub8 .unpackedDecimal idx x y c = subDecUnp x y c := if_pos h

theorem decimalAlu_z_iff (res : Byte) (c : Bool) : (decimalAlu res c).z = true ↔ (decimalAlu res c).res = 0#8 :=
  decide_eq_true_iff

/-- Settles O40: the digits' carries and borrows (`digitSum_spec`, `digitDiff_spec`) put together to two digits. -/
theorem decimalArithmetic : Obligations.DecimalArithmetic := by
  intro x y c idx hvalid
  obtain ⟨hxl, hxh, hyl, hyh⟩ := (digitsValid_decimal_iff x y).mp hvalid
  constructor
  · obtain ⟨hlo, hcarry, hloSum⟩ := digitSum_spec hxl hyl c.toNat_le
    obtain ⟨hhi, hcarry', hhiSum⟩ := digitSum_spec hxh hyh hcarry
    refine ⟨_, add8_decimal hvalid idx c, ?_, ?_, rfl, rfl, decimalAlu_z_iff _ _, ?_, ?_⟩
    · exact (lowDigit_digits hlo).trans_le hlo
    · exact (highDigit_digits hhi hlo).trans_le hhi
    · simp only [addDec, decimalAlu, lowDigit_digits hlo, highDigit_digits hhi hlo]
      omega
    · rw [← Bool.toNat_eq_one]
      simp only [addDec, decimalAlu]
      omega
  · obtain ⟨hlo, hborrow, hloDiff⟩ := digitDiff_spec hxl hyl c.toNat_le
    obtain ⟨hhi, hborrow', hhiDiff⟩ := digitDiff_spec hxh hyh hborrow
    refine ⟨_, sub8_decimal hvalid idx c, ?_, ?_, rfl, rfl, decimalAlu_z_iff _ _, ?_, ?_⟩
    · exact (lowDigit_digits hlo).trans_le hlo
    · exact (highDigit_digits hhi hlo).trans_le hhi
    · simp only [subDec, decimalAlu, lowDigit_digits hlo, highDigit_digits hhi hlo]
      omega
    · rw [← Bool.toNat_eq_one]
      simp only [subDec, decimalAlu]
      omega

/-! ### The low nibbles alone -/

theorem toNat_unpackedAlu (r : Alu 4) : (unpackedAlu r).res.toNat = r.res.toNat := by
  have hlt := r.res.isLt
  simp only [unpackedAlu, BitVec.truncate_eq_setWidth, BitVec.toNat_setWidth]
  omega

theorem unpackedAlu_res_eq_zero_iff (r : Alu 4) : (unpackedAlu r).res = 0#8 ↔ r.res = 0#4 := by
  rw [← BitVec.toNat_inj, toNat_unpackedAlu, ← BitVec.toNat_inj]
  rfl

theorem unpackedAlu_res_bit3 (r : Alu 4) : (unpackedAlu r).res.getLsbD 3 = r.res.getLsbD 3 := by
  simp [unpackedAlu]

theorem lowNibble_bit3 (x : Byte) : (lowNibble x).getLsbD 3 = x.getLsbD 3 := by
  simp [lowNibble]

theorem lowDigit_eq (x : Byte) : lowDigit x = x.toNat % 16 := rfl

theorem toNat_digit {d : Nat} (hd : d ≤ 9) : (BitVec.ofNat 8 d).toNat = d := by
  rw [BitVec.toNat_ofNat]
  omega

/-- Unpacked addition is the 4-bit addition of `addBin_spec` (10_state.md R44). -/
theorem addUnp_spec (x y : Byte) (c : Bool) :
    (addUnp x y c).res.toNat = (x.toNat % 16 + y.toNat % 16 + c.toNat) % 16 ∧
    ((addUnp x y c).c = true ↔ 15 < x.toNat % 16 + y.toNat % 16 + c.toNat) ∧
    ((addUnp x y c).z = true ↔ (addUnp x y c).res = 0#8) ∧
    (addUnp x y c).n = (addUnp x y c).res.getLsbD 3 ∧
    (addUnp x y c).v = ((x ^^^ (addUnp x y c).res) &&& (y ^^^ (addUnp x y c).res)).getLsbD 3 := by
  obtain ⟨hres, hc, hz, hn, _, hv⟩ := addBin_spec (w := 4) (by decide) (lowNibble x) (lowNibble y) c
  rw [toNat_lowNibble, toNat_lowNibble] at hres hc
  refine ⟨(toNat_unpackedAlu _).trans hres, hc, hz.trans (unpackedAlu_res_eq_zero_iff _).symm,
    hn.trans (unpackedAlu_res_bit3 _).symm, ?_⟩
  simp only [BitVec.getLsbD_and, BitVec.getLsbD_xor, Nat.reduceSub, lowNibble_bit3] at hv
  simp only [BitVec.getLsbD_and, BitVec.getLsbD_xor, addUnp, unpackedAlu_res_bit3]
  exact hv

/-- Unpacked subtraction is the 4-bit subtraction of `subBin_spec` (10_state.md R45). -/
theorem subUnp_spec (x y : Byte) (b : Bool) :
    ((subUnp x y b).res.toNat : Int) = ((x.toNat % 16 : Int) - y.toNat % 16 - b.toNat) % 16 ∧
    ((subUnp x y b).c = true ↔ x.toNat % 16 < y.toNat % 16 + b.toNat) ∧
    ((subUnp x y b).z = true ↔ (subUnp x y b).res = 0#8) ∧
    (subUnp x y b).n = (subUnp x y b).res.getLsbD 3 ∧
    (subUnp x y b).v = ((x ^^^ y) &&& (x ^^^ (subUnp x y b).res)).getLsbD 3 := by
  obtain ⟨hres, hc, hz, hn, _, hv⟩ := subBin_spec (w := 4) (by decide) (lowNibble x) (lowNibble y) b
  rw [toNat_lowNibble, toNat_lowNibble] at hres hc
  refine ⟨(congrArg Nat.cast (toNat_unpackedAlu _)).trans hres, hc.trans (by omega),
    hz.trans (unpackedAlu_res_eq_zero_iff _).symm, hn.trans (unpackedAlu_res_bit3 _).symm, ?_⟩
  simp only [BitVec.getLsbD_and, BitVec.getLsbD_xor, Nat.reduceSub, lowNibble_bit3] at hv
  simp only [BitVec.getLsbD_and, BitVec.getLsbD_xor, subUnp, unpackedAlu_res_bit3]
  exact hv

/-- Settles O41: 4-bit binary arithmetic on the low nibbles, and one decimal digit where D is set too. -/
theorem unpackedArithmetic : Obligations.UnpackedArithmetic := by
  refine ⟨fun x y c idx => ?_, fun x y c idx hvalid => ?_⟩
  · obtain ⟨ares, ac, az, an, av⟩ := addUnp_spec x y c
    exact ⟨ares, ac, az, an, av, subUnp_spec x y c⟩
  · obtain ⟨hx, hy⟩ := (digitsValid_unpackedDecimal_iff x y).mp hvalid
    constructor
    · obtain ⟨hlo, hcarry, hsum⟩ := digitSum_spec hx hy c.toNat_le
      refine ⟨_, add8_unpackedDecimal hvalid idx c, rfl, rfl, decimalAlu_z_iff _ _, ?_, ?_⟩
      · refine (toNat_digit hlo).trans ?_
        rw [← lowDigit_eq, ← lowDigit_eq]
        omega
      · rw [← Bool.toNat_eq_one, ← lowDigit_eq, ← lowDigit_eq]
        simp only [addDecUnp, decimalAlu]
        omega
    · obtain ⟨hlo, hborrow, hdiff⟩ := digitDiff_spec hx hy c.toNat_le
      refine ⟨_, sub8_unpackedDecimal hvalid idx c, rfl, rfl, decimalAlu_z_iff _ _, ?_, ?_⟩
      · refine (toNat_digit hlo).trans ?_
        rw [← lowDigit_eq, ← lowDigit_eq]
        omega
      · rw [← Bool.toNat_eq_one, ← lowDigit_eq, ← lowDigit_eq]
        simp only [subDecUnp, decimalAlu]
        omega

/-! ### The mode that D and U select -/

theorem aluMode_binary {s : State} (hD : s.flagD = false) (hU : s.flagU = false) : s.aluMode = .binary := by
  simp [State.aluMode, hD, hU]

theorem aluMode_decimal {s : State} (hD : s.flagD = true) (hU : s.flagU = false) : s.aluMode = .decimal := by
  simp [State.aluMode, hD, hU]

theorem aluMode_unpacked {s : State} (hD : s.flagD = false) (hU : s.flagU = true) : s.aluMode = .unpacked := by
  simp [State.aluMode, hD, hU]

theorem aluMode_unpackedDecimal {s : State} (hD : s.flagD = true) (hU : s.flagU = true) :
    s.aluMode = .unpackedDecimal := by
  simp [State.aluMode, hD, hU]

/-- In binary mode the mode-sensitive operations are the binary ones. -/
theorem arithResult8_binary {s : State} (hD : s.flagD = false) (hU : s.flagU = false) (op : ArithOp) (x y : Byte) :
    s.arithResult8 op x y = binaryResult op x y s.flagC := by
  cases op <;> simp only [State.arithResult8, aluMode_binary hD hU] <;> rfl

/-- Every operation in a mode is an addition or a subtraction in it. -/
theorem arithResult8_cases (s : State) (op : ArithOp) (x y : Byte) :
    ∃ c, s.arithResult8 op x y = add8 s.aluMode s.freeIdx x y c ∨
      s.arithResult8 op x y = sub8 s.aluMode s.freeIdx x y c := by
  cases op with
  | add => exact ⟨_, .inl rfl⟩
  | adc => exact ⟨_, .inl rfl⟩
  | sub => exact ⟨_, .inr rfl⟩
  | sbc => exact ⟨_, .inr rfl⟩

/-- With D = 1, decimal digits or not, N and V are 0 (10_state.md R42). -/
theorem arithResult8_nv_of_flagD {s : State} (hD : s.flagD = true) (op : ArithOp) (x y : Byte) :
    (s.arithResult8 op x y).n = false ∧ (s.arithResult8 op x y).v = false := by
  obtain ⟨c, h | h⟩ := arithResult8_cases s op x y <;> rw [h] <;> cases hU : s.flagU
  · rw [aluMode_decimal hD hU, add8]; split <;> exact ⟨rfl, rfl⟩
  · rw [aluMode_unpackedDecimal hD hU, add8]; split <;> exact ⟨rfl, rfl⟩
  · rw [aluMode_decimal hD hU, sub8]; split <;> exact ⟨rfl, rfl⟩
  · rw [aluMode_unpackedDecimal hD hU, sub8]; split <;> exact ⟨rfl, rfl⟩

theorem freeDecimal_unpacked_lt (idx : Nat) : (freeDecimal .unpackedDecimal idx).res.toNat < 16 := by
  show (Config.bcdResult idx &&& 0x0F#8).toNat < 2 ^ 4
  rw [BitVec.toNat_and]
  exact Nat.and_lt_two_pow _ (by decide)

theorem unpackedAlu_lt (r : Alu 4) : (unpackedAlu r).res.toNat < 16 := by
  rw [toNat_unpackedAlu]
  exact r.res.isLt

/-- In unpack mode with D = 1 the result is one digit, or a free value with bits 7 to 4 reset. -/
theorem unpackedDecimal_lt (idx : Nat) (x y : Byte) (c : Bool) :
    (add8 .unpackedDecimal idx x y c).res.toNat < 16 ∧ (sub8 .unpackedDecimal idx x y c).res.toNat < 16 := by
  by_cases hvalid : digitsValid .unpackedDecimal x y = true
  · obtain ⟨hx, hy⟩ := (digitsValid_unpackedDecimal_iff x y).mp hvalid
    have hsum := (digitSum_spec hx hy c.toNat_le).1
    have hdiff := (digitDiff_spec hx hy c.toNat_le).1
    rw [add8_unpackedDecimal hvalid, sub8_unpackedDecimal hvalid]
    refine ⟨(toNat_digit hsum).trans_lt ?_, (toNat_digit hdiff).trans_lt ?_⟩ <;> omega
  · rw [add8, sub8, if_neg hvalid, if_neg hvalid]
    exact ⟨freeDecimal_unpacked_lt idx, freeDecimal_unpacked_lt idx⟩

theorem arithResult8_lt_of_flagU {s : State} (hU : s.flagU = true) (op : ArithOp) (x y : Byte) :
    (s.arithResult8 op x y).res.toNat < 16 := by
  obtain ⟨c, h⟩ := arithResult8_cases s op x y
  cases hD : s.flagD
  · rw [aluMode_unpacked hD hU] at h
    obtain h | h := h <;> rw [h] <;> exact unpackedAlu_lt _
  · rw [aluMode_unpackedDecimal hD hU] at h
    obtain h | h := h <;> rw [h]
    · exact (unpackedDecimal_lt s.freeIdx x y c).1
    · exact (unpackedDecimal_lt s.freeIdx x y c).2

/-- Settles O42: the mode by D and U, N and V from D, the upper half of the result from U. -/
theorem modeDispatchAndNonDecimalDigits : Obligations.ModeDispatchAndNonDecimalDigits := fun _ op x y =>
  ⟨fun hD hU => arithResult8_binary hD hU op x y, aluMode_decimal, aluMode_unpacked, aluMode_unpackedDecimal,
    fun hD => arithResult8_nv_of_flagD hD op x y, fun hU => arithResult8_lt_of_flagU hU op x y⟩

end Sys2Proof.Proofs


/-! 8-bit and 16-bit arithmetic, logic, shifts (42_alu8_arith.md to 46_rotate_shift.md). Each family is one write of a
result and its flags, whose frame is `write8_writeFlags_frame` or `setReg16_writeFlags_frame`; what is left is that the
result and the flags are those of the statement. -/

namespace Sys2Proof.Proofs

open Sys2Proof Sys2Proof.Machine Sys2Proof.Claims Sys2Proof.Laws

/-! ### The flags N and Z of a result given as a number -/

theorem msb_of_toNat {w n : Nat} {x : BitVec w} (h : x.toNat = n) : x.msb = decide (2 ^ (w - 1) ≤ n) :=
  h ▸ BitVec.msb_eq_decide x

theorem decide_eq_zero_of_toNat {w n : Nat} {x : BitVec w} (h : x.toNat = n) :
    decide (x = 0#w) = decide (n = 0) := by
  rw [← h]
  exact decide_eq_decide.mpr (by rw [← BitVec.toNat_inj, BitVec.toNat_zero])

/-! ### Targets -/

theorem arithmetic8_target {i : Instr} {op : ArithOp} {d x : Operand8} (h : Arithmetic8 i op d x) :
    isTarget d = true := by cases h <;> rfl

theorem negate8_target {i : Instr} {d : Operand8} (h : Negate8 i d) : isTarget d = true := by cases h <;> rfl

theorem logic8_target {i : Instr} {op : LogicOp} {d x : Operand8} (h : Logic8 i op d x) : isTarget d = true := by
  cases h <;> rfl

theorem complement8_target {i : Instr} {d : Operand8} (h : Complement8 i d) : isTarget d = true := by cases h <;> rfl

theorem shift8_target {i : Instr} {k : ShiftKind} {d : Operand8} (h : Shift8 i k d) : isTarget d = true := by
  cases h <;> rfl

/-! ### ADD, ADC, SUB, SBC, NEG -/

/-- Settles O27: one write of the mode's result and of all four flags. -/
theorem arithmetic8Completes : Obligations.Arithmetic8Completes := by
  intro i op d x s h
  exact ⟨_, exec_arithmetic8 h s, write8_writeFlags_frame s _ _ (allFlags _) (arithmetic8_target h)⟩

/-- Settles O30: NEG subtracts from 0; in binary mode `0 - v` is `-v`. -/
theorem negate8Completes : Obligations.Negate8Completes := by
  intro i d s h
  obtain ⟨hwrites, hflags, hctl⟩ := write8_writeFlags_frame s _ (s.arithResult8 .sub 0#8 (s.read8 d)).res
    (allFlags (s.arithResult8 .sub 0#8 (s.read8 d))) (negate8_target h)
  refine ⟨_, exec_negate8 h s, hwrites, hflags, hctl, fun hD hU => ?_⟩
  rw [arithResult8_binary hD hU, binaryResult, subBin_res, BitVec.zero_sub]

theorem arithResult16_eq (s : State) (op : ArithOp) (x y : Word) :
    s.arithResult16 op x y = binaryResult op x y s.flagC := by cases op <;> rfl

/-- Settles O36: one write of the binary result, which D and U do not enter, and of all four flags. -/
theorem arithmetic16Completes : Obligations.Arithmetic16Completes := by
  intro i op r x s h
  rw [← arithResult16_eq]
  exact ⟨_, exec_arithmetic16 h s, setReg16_writeFlags_frame s r _ (allFlags _)⟩

/-! ### CP and the conditions after it -/

/-- The flags of a comparison, each from the two operands. -/
theorem writeFlags_compare {w : Nat} (s : State) (x y : BitVec w) :
    Flags (x - y).msb (decide (x.toInt - y.toInt < -2 ^ (w - 1) ∨ 2 ^ (w - 1) - 1 < x.toInt - y.toInt))
      (decide (x.toNat < y.toNat)) (decide (x = y)) s (s.writeFlags (allFlags (subBin x y false))) := by
  obtain ⟨⟨hn, hv, hc, hz, hmode⟩, _⟩ := writeFlags_frame s (allFlags (subBin x y false))
  refine ⟨hn.trans (congrArg BitVec.msb (subBin_res x y)), hv.trans ?_, hc.trans (subBin_c x y), hz.trans ?_, hmode⟩
  · show decide (x.toInt - y.toInt - 0 < -2 ^ (w - 1) ∨ 2 ^ (w - 1) ≤ x.toInt - y.toInt - 0) = _
    exact decide_eq_decide.mpr (by omega)
  · show decide ((subBin x y false).res = 0#w) = _
    rw [subBin_res]
    exact decide_eq_decide.mpr sub_eq_zero

/-- Settles O28: only the flags are written, and they are those of `writeFlags_compare`. -/
theorem comparesComplete : Obligations.ComparesComplete := by
  refine ⟨fun i x y s h => ?_, fun i r x s h => ?_⟩
  · exact ⟨_, exec_compare8 h s, writeFlags_compare s (s.read8 x) (s.read8 y), (writeFlags_frame s _).2⟩
  · exact ⟨_, exec_compare16 h s, writeFlags_compare s (s.reg16 r) (s.read16 x), (writeFlags_frame s _).2⟩

/-- N and V of a comparison differ exactly where the first operand is the smaller one: the difference is negative, in
range or below it. -/
theorem msb_sub_xor_overflow_iff {w : Nat} (hw : 0 < w) (x y : BitVec w) :
    ((x - y).msb ^^ decide (x.toInt - y.toInt < -2 ^ (w - 1) ∨ 2 ^ (w - 1) - 1 < x.toInt - y.toInt)) = true ↔
      x.toInt < y.toInt := by
  have hxlo := BitVec.le_toInt x
  have hxhi := x.toInt_lt
  have hylo := BitVec.le_toInt y
  have hyhi := y.toInt_lt
  have hsub : x - y = BitVec.ofInt w (x.toInt - y.toInt) := by
    rw [← subBin_res, subBin_res_eq_ofInt, Bool.toNat_false, Nat.cast_zero, Int.sub_zero]
  have hmsb := msb_ofInt_iff hw (x := x.toInt - y.toInt) (by omega) (by omega)
  rw [Bool.xor_iff_ne, ne_eq, Bool.eq_iff_iff, decide_eq_true_iff, hsub, hmsb]
  omega

/-- The eight conditions that a comparison decides (48_branch.md R541). -/
def ConditionsCompare {w : Nat} (t : State) (x y : BitVec w) : Prop :=
  (t.holds .lt = true ↔ x.toInt < y.toInt) ∧ (t.holds .le = true ↔ x.toInt ≤ y.toInt) ∧
    (t.holds .gt = true ↔ y.toInt < x.toInt) ∧ (t.holds .ge = true ↔ y.toInt ≤ x.toInt) ∧
    (t.holds .c = true ↔ x.toNat < y.toNat) ∧ (t.holds .nc = true ↔ y.toNat ≤ x.toNat) ∧
    (t.holds .z = true ↔ x = y) ∧ (t.holds .nz = true ↔ x ≠ y)

theorem conditions_of_compare {w : Nat} (hw : 0 < w) (s : State) (x y : BitVec w) :
    ConditionsCompare (s.writeFlags (allFlags (subBin x y false))) x y := by
  obtain ⟨hn, hv, hc, hz, _⟩ := writeFlags_compare s x y
  have hlt := msb_sub_xor_overflow_iff hw x y
  have heq : x = y ↔ x.toInt = y.toInt := BitVec.toInt_inj.symm
  simp only [ConditionsCompare, State.holds, hn, hv, hc, hz, Bool.or_eq_true, Bool.not_eq_true', ← Bool.not_eq_true,
    hlt, decide_eq_true_eq, heq, ne_eq, true_and, and_true]
  refine ⟨?_, ?_, ?_, ?_⟩ <;> omega

/-- Settles O43: a compare writes the flags of a subtraction, which decide the conditions. -/
theorem conditionsAfterCompare : Obligations.ConditionsAfterCompare := by
  refine ⟨fun i x y s t h hexec => ?_, fun i r y s t h hexec => ?_⟩
  · cases (exec_compare8 h s).symm.trans hexec
    exact conditions_of_compare (by decide) s (s.read8 x) (s.read8 y)
  · cases (exec_compare16 h s).symm.trans hexec
    exact conditions_of_compare (by decide) s (s.reg16 r) (s.read16 y)

/-! ### AND, OR, XOR, CPL, BIT -/

theorem logicResult_eq (op : LogicOp) (x y : Byte) : logicResult op x y = bitwise op x y := by cases op <;> rfl

theorem xor_FF_eq_not (x : Byte) : x ^^^ 0xFF#8 = ~~~x := BitVec.xor_allOnes

theorem not_eq_zero_iff (x : Byte) : ~~~x = 0#8 ↔ x = 0xFF#8 := by
  constructor
  · intro h
    rw [← BitVec.not_not (b := x), h]
    rfl
  · rintro rfl
    rfl

/-- Settles O31: one write of the result and of N and Z; BIT writes N and Z alone. -/
theorem logic8Completes : Obligations.Logic8Completes := by
  refine ⟨fun i op d x s h => ?_, fun i d s h => ?_, fun i x y s h => ?_⟩
  · rw [← logicResult_eq]
    exact ⟨_, exec_logic8 h s, write8_writeFlags_frame s s.freeIdx _ (logicFlags _) (logic8_target h)⟩
  · obtain ⟨hwrites, ⟨hn, hv, hc, hz, hmode⟩, hctl⟩ := write8_writeFlags_frame s s.freeIdx (s.read8 d ^^^ 0xFF#8)
      (logicFlags (s.read8 d ^^^ 0xFF#8)) (complement8_target h)
    rw [xor_FF_eq_not] at hwrites hn hv hc hz hmode hctl
    refine ⟨_, ?_, hwrites, ⟨hn.trans ?_, hv, hc, hz.trans ?_, hmode⟩, hctl⟩
    · rw [exec_complement8 h, State.complement8, xor_FF_eq_not]
    · exact BitVec.msb_not.trans (Bool.true_and _)
    · exact decide_eq_decide.mpr (not_eq_zero_iff _)
  · exact ⟨_, exec_bitTest h s, writeFlags_frame s (logicFlags _)⟩

/-! ### Shifts and rotates -/

theorem toNat_append_bit (x : Byte) (b : BitVec 1) :
    (x.extractLsb' 0 7 ++ b : Byte).toNat = x.toNat * 2 % 256 + b.toNat := by
  show (x.extractLsb' 0 7 ++ b : BitVec (7 + 1)).toNat = _
  rw [BitVec.toNat_append, Nat.shiftLeft_eq, Nat.mul_comm, ← Nat.two_pow_add_eq_or_of_lt b.isLt,
    BitVec.extractLsb'_toNat]
  omega

theorem toNat_bit_append (b : BitVec 1) (x : Byte) :
    (b ++ x.extractLsb' 1 7 : Byte).toNat = x.toNat / 2 + 128 * b.toNat := by
  have hlt := x.isLt
  show (b ++ x.extractLsb' 1 7 : BitVec (1 + 7)).toNat = _
  rw [BitVec.toNat_append, Nat.shiftLeft_eq, Nat.mul_comm, ← Nat.two_pow_add_eq_or_of_lt (BitVec.isLt _),
    BitVec.extractLsb'_toNat, Nat.shiftRight_eq_div_pow]
  omega

theorem toNat_msb (x : Byte) : x.msb.toNat = x.toNat / 128 := by
  have hlt := x.isLt
  rw [BitVec.msb_eq_decide]
  by_cases h : 128 ≤ x.toNat <;> simp [h] <;> omega

theorem toNat_bit0 (x : Byte) : (x.getLsbD 0).toNat = x.toNat % 2 := by
  rw [BitVec.getLsbD, Nat.testBit_zero]
  rcases Nat.mod_two_eq_zero_or_one x.toNat with h | h <;> simp [h]

/-- The model's bits and the rules' numbers give the same result. -/
theorem toNat_shiftResult (k : ShiftKind) (x : Byte) (c : Bool) :
    (shiftResult k x c).toNat = (shifted k x c).1 := by
  cases k <;>
    simp only [shiftResult, shifted, toNat_append_bit, toNat_bit_append, BitVec.toNat_ofBool, toNat_msb, toNat_bit0] <;>
    rfl

theorem shiftOut_eq (k : ShiftKind) (x : Byte) (c : Bool) : shiftOut k x = (shifted k x c).2 := by
  cases k <;> rfl

theorem shiftV_getD (k : ShiftKind) (x : Byte) (v : Bool) : (shiftV k x).getD v = shiftedV k x v := by
  cases k with
  | sla => exact congrArg (· ^^ x.getLsbD 6) (BitVec.msb_eq_getLsbD_last x)
  | rl | rlc | rr | rrc | sll | sra | srl => rfl

/-- Settles O32: one write of the result and of the flags, both read as the numbers of `shifted`. -/
theorem shift8Completes : Obligations.Shift8Completes := by
  intro i k d s h
  obtain ⟨hwrites, ⟨hn, hv, hc, hz, hmode⟩, hctl⟩ := write8_writeFlags_frame s s.freeIdx
    (shiftResult k (s.read8 d) s.flagC) (shiftFlags k (s.read8 d) s.flagC) (shift8_target h)
  refine ⟨_, exec_shift8 h s, ?_, ⟨hn.trans (msb_of_toNat (toNat_shiftResult _ _ _)),
    hv.trans (shiftV_getD _ _ _), hc.trans (shiftOut_eq _ _ _),
    hz.trans (decide_eq_zero_of_toNat (toNat_shiftResult _ _ _)), hmode⟩, hctl⟩
  rw [← toNat_shiftResult, BitVec.ofNat_toNat, BitVec.setWidth_eq]
  exact hwrites

/-! ### PACK, UPCK, SEP -/

theorem pack_frame (s : State) : s.pack.a.toNat = 16 * (s.b.toNat % 16) + s.a.toNat % 16 ∧
    KeepsRegs [.a] s s.pack ∧ KeepsMem [] s s.pack ∧ KeepsControl s s.pack := by
  refine ⟨?_, ?_, fun _ _ => rfl, rfl, rfl, rfl, rfl, rfl, rfl, rfl, rfl⟩
  · rw [← toNat_lowNibble, ← toNat_lowNibble]
    exact toNat_nibbles _ _
  · intro q hq
    cases q <;> first | rfl | simp at hq

theorem unpack_frame (s : State) : s.unpack.b.toNat = s.a.toNat / 16 ∧ s.unpack.a.toNat = s.a.toNat % 16 ∧
    KeepsRegs [.a, .b] s s.unpack ∧ KeepsMem [] s s.unpack ∧ KeepsControl s s.unpack := by
  have hextend (n : BitVec 4) : (n.zeroExtend 8).toNat = n.toNat :=
    BitVec.toNat_setWidth_of_le (by decide)
  refine ⟨(hextend _).trans (toNat_highNibble _), (hextend _).trans (toNat_lowNibble _), ?_, fun _ _ => rfl, rfl, rfl,
    rfl, rfl, rfl, rfl, rfl, rfl⟩
  intro q hq
  cases q <;> first | rfl | simp at hq

/-- The sign of A in all bits of B makes BA the value of A (45_aux.md R462). -/
theorem toInt_signExpanded (a : Byte) : (word16 (if a.msb then 0xFF#8 else 0x00#8) a).toInt = a.toInt := by
  have hlt := a.isLt
  rw [BitVec.toInt_eq_toNat_cond, BitVec.toInt_eq_toNat_cond, toNat_word16, BitVec.msb_eq_decide]
  by_cases h : 128 ≤ a.toNat
  · simp [h]
    omega
  · simp [h]
    omega

theorem signExpand_frame (s : State) : (s.signExpand.reg16 .ba).toInt = s.a.toInt ∧ s.signExpand.a = s.a ∧
    KeepsRegs [.b] s s.signExpand ∧ KeepsMem [] s s.signExpand ∧ KeepsControl s s.signExpand := by
  refine ⟨toInt_signExpanded s.a, rfl, ?_, fun _ _ => rfl, rfl, rfl, rfl, rfl, rfl, rfl, rfl, rfl⟩
  intro q hq
  cases q <;> first | rfl | simp at hq

/-- Settles O33: the frames of the three operations. -/
theorem packUnpackAndSignExpand : Obligations.PackUnpackAndSignExpand := fun s =>
  ⟨⟨_, rfl, pack_frame s⟩, ⟨_, rfl, unpack_frame s⟩, ⟨_, rfl, signExpand_frame s⟩⟩

/-! ### MLT and DIV -/

theorem toNat_product (x y : Byte) : (BitVec.ofNat 16 (x.toNat * y.toNat)).toNat = x.toNat * y.toNat := by
  have hbound : x.toNat * y.toNat ≤ 255 * 255 :=
    Nat.mul_le_mul (Nat.le_of_lt_succ x.isLt) (Nat.le_of_lt_succ y.isLt)
  rw [BitVec.toNat_ofNat]
  omega

/-- Settles O34: one write of HL and of the flags; the product of two bytes fits a word. -/
theorem multiplyCompletes : Obligations.MultiplyCompletes := by
  intro s hmuldiv
  have hprod := toNat_product s.l s.a
  obtain ⟨⟨hval, hregs, hmem⟩, ⟨hn, hv, hc, hz, hmode⟩, hctl⟩ := setReg16_writeFlags_frame s .hl
    (BitVec.ofNat 16 (s.l.toNat * s.a.toNat)) ⟨some (BitVec.ofNat 16 (s.l.toNat * s.a.toNat)).msb, some false,
      some false, some (decide (BitVec.ofNat 16 (s.l.toNat * s.a.toNat) = 0#16))⟩
  refine ⟨_, onMulDivModels_next hmuldiv _, (congrArg BitVec.toNat hval).trans hprod,
    ⟨hn.trans (msb_of_toNat hprod), hv, hc, hz.trans (decide_eq_zero_of_toNat hprod), hmode⟩, hregs, hmem, hctl⟩

/-- The quotient fits 8 bits: it stands in L, the remainder in H. -/
theorem divide_fits {s : State} (ha : s.a ≠ 0#8) (hq : (s.reg16 .hl).toNat / s.a.toNat ≤ 255) :
    s.divide = (s.setReg16 .hl (word16 (BitVec.ofNat 8 ((s.reg16 .hl).toNat % s.a.toNat))
        (BitVec.ofNat 8 ((s.reg16 .hl).toNat / s.a.toNat)))).writeFlags
      ⟨some (BitVec.ofNat 8 ((s.reg16 .hl).toNat / s.a.toNat)).msb, some false, some false,
        some (decide (BitVec.ofNat 8 ((s.reg16 .hl).toNat / s.a.toNat) = 0#8))⟩ := by
  unfold State.divide
  simp only [if_neg ha, if_neg (Nat.not_lt.mpr hq), State.setReg16, lowByte_word16, highByte_word16]

/-- The quotient does not fit: only the flags are written. -/
theorem divide_overflow {s : State} (ha : s.a ≠ 0#8) (hq : 255 < (s.reg16 .hl).toNat / s.a.toNat) :
    s.divide = s.writeFlags ⟨some true, some true, some false, some false⟩ := by
  unfold State.divide
  simp only [if_neg ha, if_pos hq]

theorem toNat_ofNat_byte {n : Nat} (hn : n ≤ 255) : (BitVec.ofNat 8 n).toNat = n := by
  rw [BitVec.toNat_ofNat]
  omega

/-- Settles O35: the two outcomes of a division by a divisor other than 0, each one write with its frame. -/
theorem divideCompletes : Obligations.DivideCompletes := by
  intro s hmuldiv ha
  refine ⟨_, onMulDivModels_next hmuldiv _, ?_⟩
  by_cases hq : (s.reg16 .hl).toNat / s.a.toNat ≤ 255
  · have hpos : 0 < s.a.toNat := Nat.pos_of_ne_zero fun h => ha (BitVec.eq_of_toNat_eq h)
    have hr : (s.reg16 .hl).toNat % s.a.toNat ≤ 255 :=
      Nat.le_of_lt_succ ((Nat.mod_lt _ hpos).trans s.a.isLt)
    have hquot := toNat_ofNat_byte hq
    obtain ⟨⟨hval, hregs, hmem⟩, ⟨hn, hv, hc, hz, hmode⟩, hctl⟩ := setReg16_writeFlags_frame s .hl
      (word16 (BitVec.ofNat 8 ((s.reg16 .hl).toNat % s.a.toNat)) (BitVec.ofNat 8 ((s.reg16 .hl).toNat / s.a.toNat)))
      ⟨some (BitVec.ofNat 8 ((s.reg16 .hl).toNat / s.a.toNat)).msb, some false, some false,
        some (decide (BitVec.ofNat 8 ((s.reg16 .hl).toNat / s.a.toNat) = 0#8))⟩
    rw [divide_fits ha hq]
    refine ⟨hmem, hctl, fun _ => ⟨?_, ?_, ⟨hn.trans (msb_of_toNat hquot), hv, hc,
      hz.trans (decide_eq_zero_of_toNat hquot), hmode⟩, hregs⟩,
      fun h => absurd h (Nat.not_lt.mpr hq)⟩
    · refine Eq.trans (congrArg BitVec.toNat ?_) hquot
      exact lowByte_word16 _ _
    · refine Eq.trans (congrArg BitVec.toNat ?_) (toNat_ofNat_byte hr)
      exact highByte_word16 _ _
  · obtain ⟨hflags, hregs, hmem, hctl⟩ := writeFlags_frame s ⟨some true, some true, some false, some false⟩
    rw [divide_overflow ha (Nat.not_le.mp hq)]
    exact ⟨hmem, hctl, fun h => absurd h hq, fun _ => ⟨hflags, hregs⟩⟩

end Sys2Proof.Proofs


/-! The stack (47_stack.md, 20_memory.md R74 to R76). A PUSH is `pushBytes` of its register bytes; a POP is a chain of
register pops, and `Popped` says what such a chain does and composes along it. -/

namespace Sys2Proof.Proofs

open Sys2Proof Sys2Proof.Machine Sys2Proof.Claims Sys2Proof.Laws

/-! ### Instructions that the CPU model lacks -/

/-- The instructions that need MLT and DIV or banks stop by name where these are missing; every CPU model has the
others (30_encoding.md R110). -/
theorem exec_absent {i : Instr} {s : State} (h : i.wellFormed s.model = false) :
    exec i s = .fault (.absentOnModel s.model) := by
  cases i with
  | mlt | div => exact onMulDivModels_absent h _
  | ldNB_imm | ldEP_imm | ldXP_imm | ldYP_imm | ldA_NB | ldA_EP | ldA_XP | ldA_YP | ldNB_A | ldEP_A | ldXP_A | ldYP_A
  | pushEP | pushIP | pushALE | popEP | popIP | popALE => exact onBankModels_absent h _
  | _ => cases h

theorem wellFormed_of_next {i : Instr} {s t : State} (h : exec i s = .next t) : i.wellFormed s.model = true := by
  by_contra hwf
  rw [exec_absent (Bool.eq_false_iff.mpr hwf)] at h
  cases h

/-! ### PUSH -/

theorem push16_pair (s : State) (hi lo : Byte) : s.push16 (word16 hi lo) = pushBytes s [hi, lo] := by
  rw [push16_eq, highByte_word16, lowByte_word16]

/-- PUSH ALL pushes BA, HL, IX, IY and BR of the state before it (47_stack.md R516). -/
theorem pushAll_eq (s : State) : s.pushAll =
    pushBytes s ([.b, .a, .h, .l, .ixHigh, .ixLow, .iyHigh, .iyLow, .br].map (regByte s)) := by
  simp only [State.pushAll, State.reg16, push16_eq, highByte_word16, lowByte_word16, pushBytes, List.map, regByte]

theorem pushAllExtended_eq (s : State) : s.pushAllExtended =
    pushBytes s ([.b, .a, .h, .l, .ixHigh, .ixLow, .iyHigh, .iyLow, .br, .ep, .xp, .yp].map (regByte s)) := by
  simp only [State.pushAllExtended, State.pushIP, push8_xp, push8_yp, pushAll_eq, pushBytes, List.map, regByte]

theorem exec_pushOf {i : Instr} {l : List RegByte} (h : PushOf i l) {s : State} (hwf : i.wellFormed s.model = true) :
    exec i s = .next (pushBytes s (l.map (regByte s))) := by
  cases h with
  | pushA | pushB | pushL | pushH | pushIX | pushIY | pushBR | pushSC => rfl
  | pushBA | pushHL => exact congrArg Host.Outcome.next (push16_pair s _ _)
  | pushEP | pushIP => exact onBankModels_next hwf _
  | pushALL => exact congrArg Host.Outcome.next (pushAll_eq s)
  | pushALE => exact (onBankModels_next hwf _).trans (congrArg Host.Outcome.next (pushAllExtended_eq s))

theorem pushOf_length {i : Instr} {l : List RegByte} (h : PushOf i l) (s : State) :
    (l.map (regByte s)).length < 65000 := by
  cases h <;> simp

/-- Settles O44: a PUSH is `pushBytes` of its register bytes. -/
theorem pushesComplete : Obligations.PushesComplete := by
  intro i l s h hwf
  obtain ⟨hregs, hctl⟩ := pushBytes_keeps s (l.map (regByte s))
  exact ⟨_, exec_pushOf h hwf, pushBytes_pushed s _ (pushOf_length h s), hregs, hctl⟩

/-! ### POP -/

/-- The register bytes `l` were popped in this order: SP went up by their number, the k-th of them is the k-th byte above
the old SP, and nothing else changed. -/
structure Popped (l : List RegByte) (s t : State) : Prop where
  sp : t.sp = s.sp + BitVec.ofNat 16 l.length
  bytes : ∀ k r, l[k]? = some r → regByte t r = stackByte s k
  regs : KeepsRegs (.spHigh :: .spLow :: l) s t
  mem : t.mem = s.mem
  control : KeepsControl s t

/-- The bytes above the new SP are those above the popped ones. -/
theorem Popped.stackByte_eq {l : List RegByte} {s t : State} (h : Popped l s t) (k : Nat) :
    stackByte t k = stackByte s (l.length + k) := by
  obtain ⟨_, _, _, _, hmodel, _, hpins, _⟩ := h.control
  rw [stackByte, stackByte, readMem_congr h.mem, dataAddr_congr hmodel, hpins, h.sp, BitVec.ofNat_add,
    BitVec.add_assoc]

/-- One POP after another, of other registers. -/
theorem Popped.append {l m : List RegByte} {s t u : State} (h : Popped l s t) (k : Popped m t u)
    (hdisjoint : ∀ r ∈ l, r ∉ (.spHigh :: .spLow :: m)) : Popped (l ++ m) s u := by
  refine ⟨?_, fun j r hj => ?_, fun r hr => ?_, k.mem.trans h.mem, keepsControl_trans h.control k.control⟩
  · rw [k.sp, h.sp, List.length_append, BitVec.ofNat_add, BitVec.add_assoc]
  · rcases Nat.lt_or_ge j l.length with hlt | hge
    · rw [List.getElem?_append_left hlt] at hj
      exact (k.regs r (hdisjoint r (List.mem_of_getElem? hj))).trans (h.bytes j r hj)
    · rw [List.getElem?_append_right hge] at hj
      rw [k.bytes _ r hj, h.stackByte_eq, Nat.add_sub_cancel' hge]
  · simp only [List.mem_cons, List.mem_append, not_or] at hr
    obtain ⟨hhigh, hlow, hl, hm⟩ := hr
    exact (k.regs r (by simp [hhigh, hlow, hm])).trans (h.regs r (by simp [hhigh, hlow, hl]))

theorem popped_popReg8 (s : State) (r : Reg8) : Popped [byteOf r] s (s.popReg8 r) := by
  refine ⟨?_, fun k q hk => ?_, fun q hq => ?_, ?_, ?_⟩
  · rw [State.popReg8, setReg8_sp]
    rfl
  · match k with
    | 0 =>
      cases hk
      rw [regByte_popReg8 s r _ (by cases r <;> simp [byteOf]), if_pos rfl]
    | k + 1 => simp at hk
  · simp only [List.mem_cons, List.not_mem_nil, or_false, not_or] at hq
    obtain ⟨hhigh, hlow, hne⟩ := hq
    rw [regByte_popReg8 s r q ⟨hhigh, hlow⟩, if_neg hne]
  · rw [State.popReg8, setReg8_mem]
    rfl
  · cases r <;> exact ⟨rfl, rfl, rfl, rfl, rfl, rfl, rfl, rfl⟩

theorem popped_popReg16 (s : State) {r : Reg16} (hr : r ≠ .sp) : Popped (bytesOf r).reverse s (s.popReg16 r) := by
  have hval := popReg16_spec s r
  have hhigh := congrArg highByte hval
  have hlow := congrArg lowByte hval
  rw [highByte_word16] at hhigh
  rw [lowByte_word16] at hlow
  obtain ⟨⟨_, hregs, _⟩, hctl⟩ := setReg16_frame s.drop16 r s.popped16
  refine ⟨?_, fun k q hk => ?_, fun q hq => ?_, ?_, ?_⟩
  · have hsp : (s.popReg16 r).sp = s.sp + 1#16 + 1#16 := by
      cases r <;> first | exact absurd rfl hr | rfl
    have hlen : (bytesOf r).reverse.length = 1 + 1 := by cases r <;> rfl
    rw [hsp, hlen, BitVec.ofNat_add, BitVec.add_assoc]
  · match k with
    | 0 => cases r <;> cases hk <;> simpa [State.reg16, regByte] using hlow
    | 1 => cases r <;> cases hk <;> simpa [State.reg16, regByte] using hhigh
    | k + 2 => cases r <;> cases hk
  · simp only [List.mem_cons, List.mem_reverse, not_or] at hq
    obtain ⟨hspHigh, hspLow, hq⟩ := hq
    refine (hregs q (by simpa using hq)).trans ?_
    cases q <;> first | rfl | exact absurd rfl hspHigh | exact absurd rfl hspLow
  · rw [State.popReg16, setReg16_mem]
    rfl
  · exact hctl

theorem popped_popIP (s : State) : Popped [.yp, .xp] s s.popIP :=
  (popped_popReg8 s .yp).append (popped_popReg8 _ .xp) (by simp [byteOf])

theorem popped_popAll (s : State) :
    Popped [.br, .iyLow, .iyHigh, .ixLow, .ixHigh, .l, .h, .a, .b] s s.popAll :=
  ((((popped_popReg8 s .br).append (popped_popReg16 _ (r := .iy) (by simp)) (by simp [byteOf, bytesOf])).append
    (popped_popReg16 _ (r := .ix) (by simp)) (by simp [byteOf, bytesOf])).append
    (popped_popReg16 _ (r := .hl) (by simp)) (by simp [byteOf, bytesOf])).append
    (popped_popReg16 _ (r := .ba) (by simp)) (by simp [byteOf, bytesOf])

theorem popped_popAllExtended (s : State) :
    Popped [.yp, .xp, .ep, .br, .iyLow, .iyHigh, .ixLow, .ixHigh, .l, .h, .a, .b] s s.popAllExtended :=
  ((popped_popIP s).append (popped_popReg8 _ .ep) (by simp [byteOf])).append (popped_popAll _) (by simp [byteOf])

/-- A POP of registers other than SC is its chain of pops. -/
theorem exec_popOf {i : Instr} {l : List RegByte} (h : PopOf i l) (hsc : i ≠ .popSC) {s : State}
    (hwf : i.wellFormed s.model = true) : ∃ t, exec i s = .next t ∧ Popped l s t := by
  cases h with
  | popA => exact ⟨_, rfl, popped_popReg8 s .a⟩
  | popB => exact ⟨_, rfl, popped_popReg8 s .b⟩
  | popL => exact ⟨_, rfl, popped_popReg8 s .l⟩
  | popH => exact ⟨_, rfl, popped_popReg8 s .h⟩
  | popBR => exact ⟨_, rfl, popped_popReg8 s .br⟩
  | popBA => exact ⟨_, rfl, popped_popReg16 s (r := .ba) (by simp)⟩
  | popHL => exact ⟨_, rfl, popped_popReg16 s (r := .hl) (by simp)⟩
  | popIX => exact ⟨_, rfl, popped_popReg16 s (r := .ix) (by simp)⟩
  | popIY => exact ⟨_, rfl, popped_popReg16 s (r := .iy) (by simp)⟩
  | popEP => exact ⟨_, onBankModels_next hwf _, popped_popReg8 s .ep⟩
  | popIP => exact ⟨_, onBankModels_next hwf _, popped_popIP s⟩
  | popSC => exact absurd rfl hsc
  | popALL => exact ⟨_, rfl, popped_popAll s⟩
  | popALE => exact ⟨_, onBankModels_next hwf _, popped_popAllExtended s⟩

/-- Settles O45: the chain of pops, and for POP SC the hold after it. -/
theorem popsComplete : Obligations.PopsComplete := by
  intro i l s h hwf
  by_cases hsc : i = .popSC
  · subst hsc
    cases h
    obtain ⟨hsp, hbytes, hregs, hmem, hpc, hctl⟩ := popped_popReg8 s .sc
    refine ⟨_, rfl, hsp, fun k r hk => ?_, keepsRegs_holdInterrupts hregs, keepsMem_of_mem hmem, hpc,
      control_holdInterrupts hctl⟩
    exact (keepsRegs_holdInterrupts (keepsRegs_refl [] _) r (by simp)).trans (hbytes k r hk)
  · obtain ⟨t, hexec, hsp, hbytes, hregs, hmem, hpc, hctl⟩ := exec_popOf h hsc hwf
    rw [decide_eq_false hsc, Bool.false_or]
    exact ⟨t, hexec, hsp, hbytes, hregs, keepsMem_of_mem hmem, hpc, hctl⟩

/-! ### PUSH and then POP -/

/-- Popping what was pushed, in the opposite order, brings back every register and SP. -/
theorem restored_of_pushed_popped {l : List RegByte} {s t u : State} (hpush : Pushed (l.map (regByte s)) s t)
    (hkeeps : KeepsButStack s t) (hlen : l.length < 65000) (hpop : Popped l.reverse t u) :
    KeepsRegs [] s u ∧ KeepsControl s u := by
  have hsp : u.sp = s.sp := by
    rw [hpop.sp, hpush.1, List.length_map, List.length_reverse, BitVec.sub_add_cancel]
  refine ⟨fun r _ => ?_, keepsControl_trans hkeeps.control hpop.control⟩
  by_cases hspByte : r = .spHigh ∨ r = .spLow
  · rcases hspByte with rfl | rfl
    · exact congrArg highByte hsp
    · exact congrArg lowByte hsp
  · obtain ⟨hhigh, hlow⟩ := not_or.mp hspByte
    by_cases hr : r ∈ l
    · obtain ⟨k, hk⟩ := List.getElem?_of_mem (List.mem_reverse.mpr hr)
      have hklt : k < l.length := by
        rw [← List.length_reverse]
        exact (List.getElem?_eq_some_iff.mp hk).1
      have hpushed := pushed_stackByte hpush hkeeps.pins hkeeps.model (by simpa using hlen) k (by simpa using hklt)
      rw [List.getElem?_reverse hklt] at hk
      rw [List.length_map, List.getElem?_map, hk] at hpushed
      rw [hpop.bytes k r (by rw [List.getElem?_reverse hklt, hk])]
      exact Option.some.inj hpushed
    · exact (hpop.regs r (by simp [hhigh, hlow, hr])).trans (hkeeps.regs r (by simp [hhigh, hlow]))

/-- A PUSH and the POP of the same bytes in the opposite order, where the CPU model has both. -/
theorem push_pop_restores {push pop : Instr} {l : List RegByte} (hpush : PushOf push l) (hpop : PopOf pop l.reverse)
    (hsc : pop ≠ .popSC) (hwf : ∀ m, pop.wellFormed m = push.wellFormed m) {s t : State} (h : exec push s = .next t) :
    ∃ u, exec pop t = .next u ∧ KeepsRegs [] s u ∧ KeepsControl s u := by
  have hpushWf := wellFormed_of_next h
  cases (exec_pushOf hpush hpushWf).symm.trans h
  have hlen := pushOf_length hpush s
  have hkeeps := pushBytes_keeps s (l.map (regByte s))
  have hpopWf : pop.wellFormed (pushBytes s (l.map (regByte s))).model = true := by
    rw [hkeeps.model, hwf, hpushWf]
  obtain ⟨u, hexec, hpopped⟩ := exec_popOf hpop hsc hpopWf
  exact ⟨u, hexec, restored_of_pushed_popped (pushBytes_pushed s _ hlen) hkeeps (by simpa using hlen) hpopped⟩

/-- Settles O46: POP ALL and POP ALE take the bytes of PUSH ALL and PUSH ALE in the opposite order. -/
theorem pushAllThenPopAllRestores : Obligations.PushAllThenPopAllRestores := by
  rintro push pop s t (⟨rfl, rfl⟩ | ⟨rfl, rfl⟩) h
  · exact push_pop_restores .pushALL .popALL (by simp) (fun _ => rfl) h
  · exact push_pop_restores .pushALE .popALE (by simp) (fun _ => rfl) h

/-! ### Pairs -/

/-- Settles O18: the halves of a pair, and IP as the two bytes that PUSH IP and POP IP move. -/
theorem pairsAreViews : Obligations.PairsAreViews := by
  intro s v
  refine ⟨toNat_word16 _ _, toNat_word16 _ _, toNat_highByte v, toNat_lowByte v, toNat_highByte v, toNat_lowByte v,
    reg16_setReg16_same s .ba v, reg16_setReg16_same s .hl v, fun hbank => ⟨?_, ?_⟩⟩
  · obtain ⟨_, hbytes, _⟩ := pushBytes_pushed s [s.xp, s.yp] (by simp)
    have hhigh : s.pushIP.readMem (belowSP s 1) = s.xp := Option.some.inj (hbytes 0 (by simp))
    have hlow : s.pushIP.readMem (belowSP s 2) = s.yp := Option.some.inj (hbytes 1 (by simp))
    exact ⟨_, onBankModels_next hbank _, by rw [toNat_word16, hhigh, hlow]⟩
  · have hpopped := popped_popIP s
    have hyp : s.popIP.yp = stackByte s 0 := hpopped.bytes 0 .yp rfl
    have hxp : s.popIP.xp = stackByte s 1 := hpopped.bytes 1 .xp rfl
    exact ⟨_, onBankModels_next hbank _, by rw [toNat_word16, hyp, hxp]⟩

end Sys2Proof.Proofs


/-! Branches, calls, returns and INT (48_branch.md). A branch is taken (`branchTo`) or not (`notTaken`); calls and INT are
branches after pushes; the returns are `PopRet()`. -/

namespace Sys2Proof.Proofs

open Sys2Proof Sys2Proof.Machine Sys2Proof.Claims Sys2Proof.Laws

/-! ### Frames -/

theorem control_trans {run : RunState} {hold : Bool} {s t u : State} (h : Control s.runState s.inhibitInt s t)
    (k : Control run hold t u) : Control run hold s u := by
  obtain ⟨_, _, hnmi, hmodel, hmode, hpins, henv⟩ := h
  obtain ⟨krun, khold, knmi, kmodel, kmode, kpins, kenv⟩ := k
  exact ⟨krun, khold, knmi.trans hnmi, kmodel.trans hmodel, kmode.trans hmode, kpins.trans hpins, kenv.trans henv⟩

/-- A run state and a hold that are kept are those of the earlier state. -/
theorem control_trans_kept {s t u : State} (h : Control s.runState s.inhibitInt s t)
    (k : Control t.runState t.inhibitInt t u) : Control s.runState s.inhibitInt s u := by
  have hkept := control_trans h k
  rwa [h.1, h.2.1] at hkept

/-- The flags are a view of SC. -/
theorem flags_congr {n v c z : Bool} {s t u : State} (hsc : u.sc = t.sc) (h : Flags n v c z s t) :
    Flags n v c z s u := by
  simpa only [Flags, KeepsModeBits, State.flagN, State.flagV, State.flagC, State.flagZ, hsc] using h

/-- What was pushed is a view of SP and memory. -/
theorem pushed_congr {bs : List Byte} {s t u : State} (hsp : u.sp = t.sp) (hmem : u.mem = t.mem)
    (h : Pushed bs s t) : Pushed bs s u := by
  obtain ⟨htop, hbytes, hkept⟩ := h
  refine ⟨hsp.trans htop, fun k hk => ?_, fun a ha => (readMem_congr hmem a).trans (hkept a ha)⟩
  rw [readMem_congr hmem]
  exact hbytes k hk

theorem pushed_nil {s t : State} (hsp : t.sp = s.sp) (hmem : t.mem = s.mem) : Pushed [] s t :=
  pushed_congr hsp hmem (pushBytes_pushed s [] (by simp))

/-! ### Taken and not taken -/

theorem branchTo_frame (s : State) (w : Word) :
    (s.branchTo w).pc = w ∧ KeepsRegs [.cb] s (s.branchTo w) ∧ (s.branchTo w).mem = s.mem ∧
      Control s.runState s.inhibitInt s (s.branchTo w) := by
  refine ⟨rfl, ?_, rfl, rfl, rfl, rfl, rfl, rfl, rfl, rfl⟩
  intro q hq
  cases q <;> first | rfl | simp at hq

theorem notTaken_frame (s : State) :
    s.notTaken.pc = s.pc ∧ KeepsRegs [.nb] s s.notTaken ∧ s.notTaken.mem = s.mem ∧
      Control s.runState s.inhibitInt s s.notTaken := by
  refine ⟨rfl, ?_, rfl, rfl, rfl, rfl, rfl, rfl, rfl, rfl⟩
  intro q hq
  cases q <;> first | rfl | simp at hq

theorem branchIf_frame (s : State) (cond : Bool) (w : Word) :
    (s.branchIf cond w).pc = (if cond then w else s.pc) ∧ KeepsRegs [.nb, .cb] s (s.branchIf cond w) ∧
      (s.branchIf cond w).mem = s.mem ∧ Control s.runState s.inhibitInt s (s.branchIf cond w) := by
  cases cond with
  | true =>
    obtain ⟨hpc, hregs, hmem, hctl⟩ := branchTo_frame s w
    exact ⟨hpc, keepsRegs_mono hregs (by simp), hmem, hctl⟩
  | false =>
    obtain ⟨hpc, hregs, hmem, hctl⟩ := notTaken_frame s
    exact ⟨hpc, keepsRegs_mono hregs (by simp), hmem, hctl⟩

/-- Settles O47: each is `branchIf` to the last byte's address plus the displacement. -/
theorem relativeJumpsComplete : Obligations.RelativeJumpsComplete := by
  intro i c d s h
  obtain ⟨hpc, hregs, hmem, hctl⟩ := branchIf_frame s (c.elim true s.holds) (s.pc - 1#16 + d)
  exact ⟨_, exec_relativeJump h s, hpc, hregs, keepsMem_of_mem hmem, hctl⟩

/-! ### DJR -/

theorem decrementB_frame (s : State) :
    (s.decrement8 (.reg .b)).b = s.b - 1#8 ∧
      Flags s.flagN s.flagV s.flagC (decide (s.b - 1#8 = 0#8)) s (s.decrement8 (.reg .b)) ∧
      KeepsRegs [.b, .sc] s (s.decrement8 (.reg .b)) ∧ KeepsMem [] s (s.decrement8 (.reg .b)) ∧
      KeepsControl s (s.decrement8 (.reg .b)) := by
  obtain ⟨⟨hval, hregs, hmem⟩, hflags, hctl⟩ :=
    write8_writeFlags_frame s s.freeIdx (d := .reg .b) (s.b - 1#8) (zeroFlag (s.b - 1#8)) rfl
  exact ⟨hval, hflags, hregs, hmem, hctl⟩

/-- Settles O49: B and Z as for DEC B, then `branchIf`, which keeps both. -/
theorem decrementJumpCompletes : Obligations.DecrementJumpCompletes := by
  intro s rr
  obtain ⟨hb, hflags, hregs, hmem, hpc, hctl⟩ := decrementB_frame s
  obtain ⟨hpc', hregs', hmem', hctl'⟩ :=
    branchIf_frame (s.decrement8 (.reg .b)) (decide (s.b - 1#8 ≠ 0#8)) (s.rel8 rr)
  refine ⟨s.decrementAndBranch rr, rfl, (hregs' .b (by simp)).trans hb, hpc'.trans ?_,
    flags_congr (hregs' .sc (by simp)) hflags,
    keepsRegs_trans (keepsRegs_mono hregs (by simp +contextual)) (keepsRegs_mono hregs' (by simp +contextual)),
    keepsMem_trans hmem (keepsMem_of_mem hmem'), control_trans_kept hctl hctl'⟩
  simp only [decide_eq_true_eq]
  exact congrArg (ite _ _) hpc

/-! ### Branches after pushes -/

theorem pushRet_push8_eq (s : State) (ret : Word) (v : Byte) :
    (s.pushRet ret).push8 v = pushBytes s (returnInfo s ret ++ [v]) := by
  rw [pushRet_eq, ← pushBytes_append]

theorem returnInfo_short (s : State) (ret : Word) : (returnInfo s ret).length < 65000 := by
  have hmax := s.maxMode.toNat_le
  rw [returnInfo_length]
  omega

theorem returnInfo_push_short (s : State) (ret : Word) (v : Byte) : (returnInfo s ret ++ [v]).length < 65000 := by
  have hmax := s.maxMode.toNat_le
  rw [List.length_append, returnInfo_length, List.length_singleton]
  omega

/-- A taken branch after pushes: the bytes below SP, the target in PC, CB from NB. -/
theorem pushBytes_branchTo_frame (s : State) (bs : List Byte) (hlen : bs.length < 65000) (w : Word) :
    Pushed bs s ((pushBytes s bs).branchTo w) ∧ ((pushBytes s bs).branchTo w).pc = w ∧
      KeepsRegs [.cb, .spHigh, .spLow] s ((pushBytes s bs).branchTo w) ∧
      Control s.runState s.inhibitInt s ((pushBytes s bs).branchTo w) := by
  obtain ⟨hregs, _, hctl⟩ := pushBytes_keeps s bs
  obtain ⟨hpc', hregs', hmem', hctl'⟩ := branchTo_frame (pushBytes s bs) w
  exact ⟨pushed_congr rfl hmem' (pushBytes_pushed s bs hlen), hpc',
    keepsRegs_trans (keepsRegs_mono hregs (by simp +contextual)) (keepsRegs_mono hregs' (by simp +contextual)),
    control_trans_kept hctl hctl'⟩

theorem callTo_frame (s : State) (w : Word) :
    Pushed (returnInfo s s.pc) s (s.callTo w) ∧ (s.callTo w).pc = w ∧
      KeepsRegs [.cb, .spHigh, .spLow] s (s.callTo w) ∧ Control s.runState s.inhibitInt s (s.callTo w) := by
  rw [State.callTo, pushRet_eq]
  exact pushBytes_branchTo_frame s _ (returnInfo_short s s.pc) w

/-- Settles O48: taken, a branch after the pushes of the return information; else `notTaken`. -/
theorem relativeCallsComplete : Obligations.RelativeCallsComplete := by
  intro i c d s h
  refine ⟨_, exec_relativeCall h s, ?_⟩
  cases c.elim true s.holds with
  | true =>
    obtain ⟨hpushed, hpc, hregs, hctl⟩ := callTo_frame s (s.pc - 1#16 + d)
    exact ⟨hpc, hpushed, keepsRegs_mono hregs (by simp +contextual), hctl⟩
  | false =>
    obtain ⟨hpc, hregs, hmem, hctl⟩ := notTaken_frame s
    exact ⟨hpc, pushed_nil rfl hmem, keepsRegs_mono hregs (by simp +contextual), hctl⟩

/-- CALL [hhll]: the pointer is read in page EP after the pushes (92 D20). -/
theorem callIndirect_frame (s : State) (hhll : Word) :
    Pushed (returnInfo s s.pc) s (s.callIndirect hhll) ∧
      (s.callIndirect hhll).pc = word16 ((s.callIndirect hhll).readMem (s.dataAddr s.ep (hhll + 1#16)))
        ((s.callIndirect hhll).readMem (s.dataAddr s.ep hhll)) ∧
      KeepsRegs [.cb, .spHigh, .spLow] s (s.callIndirect hhll) ∧
      Control s.runState s.inhibitInt s (s.callIndirect hhll) := by
  have hkeeps := pushBytes_keeps s (returnInfo s s.pc)
  have hep : (pushBytes s (returnInfo s s.pc)).ep = s.ep := hkeeps.regs .ep (by simp)
  have haddr (w : Word) : (pushBytes s (returnInfo s s.pc)).dataAddr (pushBytes s (returnInfo s s.pc)).ep w =
      s.dataAddr s.ep w := by rw [dataAddr_congr hkeeps.model, hep]
  obtain ⟨hpushed, hpc, hregs, hctl⟩ := pushBytes_branchTo_frame s _ (returnInfo_short s s.pc)
    ((pushBytes s (returnInfo s s.pc)).read16 (.mem (.athhll hhll)))
  rw [State.callIndirect, pushRet_eq]
  refine ⟨hpushed, hpc.trans ?_, hregs, hctl⟩
  rw [← haddr, ← haddr]
  rfl

/-- Settles O50: two taken branches, and one after the pushes of the return information. -/
theorem indirectJumpsAndCallComplete : Obligations.IndirectJumpsAndCallComplete := by
  intro s kk hhll
  obtain ⟨hpcHL, hregsHL, hmemHL, hctlHL⟩ := branchTo_frame s (s.reg16 .hl)
  obtain ⟨hpc, hregs, hmem, hctl⟩ := branchTo_frame s (s.vector kk)
  exact ⟨⟨_, rfl, hpcHL, hregsHL, keepsMem_of_mem hmemHL, hctlHL⟩, ⟨_, rfl, hpc, hregs, keepsMem_of_mem hmem, hctl⟩,
    ⟨_, rfl, callIndirect_frame s hhll⟩⟩

/-- INT [kk]: return information and SC pushed, then a branch through the vector (48_branch.md R561). -/
theorem softwareInterrupt_frame (s : State) (kk : Byte) :
    Pushed (returnInfo s s.pc ++ [s.sc]) s (s.softwareInterrupt kk) ∧
      (s.softwareInterrupt kk).pc = word16 ((s.softwareInterrupt kk).readMem (kk.toNat + 1))
        ((s.softwareInterrupt kk).readMem kk.toNat) ∧
      KeepsRegs [.cb, .spHigh, .spLow] s (s.softwareInterrupt kk) ∧
      Control s.runState s.inhibitInt s (s.softwareInterrupt kk) := by
  simp only [State.softwareInterrupt, pushRet_push8_eq]
  exact pushBytes_branchTo_frame s _ (returnInfo_push_short s s.pc s.sc)
    ((pushBytes s (returnInfo s s.pc ++ [s.sc])).vector kk)

/-- Settles O52: the frame of INT. -/
theorem softwareInterruptCompletes : Obligations.SoftwareInterruptCompletes := fun s kk =>
  ⟨_, rfl, softwareInterrupt_frame s kk⟩

/-! ### Returns -/

/-- The state of RETE after it took SC from the stack (48_branch.md R559). -/
def afterPopSC (s : State) : State := { s.drop8 with sc := s.popped8 }

theorem stackByte_afterPopSC (s : State) (k : Nat) : stackByte (afterPopSC s) k = stackByte s (k + 1) :=
  stackByte_drop8 s k

theorem keepsRegs_afterPopSC (s : State) : KeepsRegs [.sc, .spHigh, .spLow] s (afterPopSC s) := by
  intro q hq
  cases q <;> first | rfl | simp at hq

/-- RETE: SC, then the return, then the hold (60_exceptions.md R621). -/
theorem exceptionReturn_frame (s : State) :
    s.exceptionReturn.pc = word16 (stackByte s 2) (stackByte s 1) ∧
      s.exceptionReturn.sp = s.sp + BitVec.ofNat 16 (3 + s.maxMode.toNat) ∧
      (s.maxMode = true → s.exceptionReturn.cb = stackByte s 3 ∧ s.exceptionReturn.nb = stackByte s 3) ∧
      (s.maxMode = false → s.exceptionReturn.cb = s.cb ∧ s.exceptionReturn.nb = s.nb) ∧
      s.exceptionReturn.sc = stackByte s 0 ∧ KeepsRegs [.sc, .nb, .cb, .spHigh, .spLow] s s.exceptionReturn ∧
      s.exceptionReturn.mem = s.mem ∧ Control s.runState true s s.exceptionReturn := by
  obtain ⟨hpc, hsp, hmax, hmin, hsc, hregs, hmem, hctl⟩ := popRet_frame (afterPopSC s)
  simp only [stackByte_afterPopSC] at hpc hmax
  refine ⟨hpc, hsp.trans ?_, hmax, hmin, hsc.trans (popped8_eq s), keepsRegs_holdInterrupts ?_, hmem,
    control_holdInterrupts hctl⟩
  · show s.sp + BitVec.ofNat 16 1 + BitVec.ofNat 16 (2 + s.maxMode.toNat) = _
    rw [BitVec.add_assoc, ← BitVec.ofNat_add, ← Nat.add_assoc]
  · exact keepsRegs_trans (keepsRegs_mono (keepsRegs_afterPopSC s) (by simp +contextual))
      (keepsRegs_mono hregs (by simp +contextual))

/-- PC is not among the bytes of the register file. -/
theorem keepsRegs_setPC {l : List RegByte} {s t : State} (h : KeepsRegs l s t) (w : Word) :
    KeepsRegs l s (t.setPC w) := by
  intro q hq
  rw [← h q hq]
  cases q <;> rfl

/-- Settles O51: `popRet_frame` for RET and RETS, `exceptionReturn_frame` for RETE. -/
theorem returnsComplete : Obligations.ReturnsComplete := by
  intro s i k skip hold h
  simp only [List.mem_cons, List.not_mem_nil, or_false, Prod.mk.injEq] at h
  obtain ⟨hpc, hsp, hmax, hmin, hsc, hregs, hmem, hctl⟩ := popRet_frame s
  have hregs' : KeepsRegs [.sc, .nb, .cb, .spHigh, .spLow] s s.popRet := keepsRegs_mono hregs (by simp +contextual)
  obtain ⟨rfl, rfl, rfl, rfl⟩ | ⟨rfl, rfl, rfl, rfl⟩ | ⟨rfl, rfl, rfl, rfl⟩ := h
  · exact ⟨s.popRet, rfl, hpc.trans (BitVec.add_zero _).symm, (Nat.zero_add 2).symm ▸ hsp, hmax, hmin, hsc, hregs',
      keepsMem_of_mem hmem, hctl⟩
  · exact ⟨s.popRet.setPC (s.popRet.pc + 2#16), rfl, congrArg (· + 2#16) hpc, (Nat.zero_add 2).symm ▸ hsp, hmax, hmin,
      hsc, keepsRegs_setPC hregs' _, keepsMem_of_mem hmem, hctl⟩
  · obtain ⟨epc, esp, emax, emin, esc, eregs, emem, ectl⟩ := exceptionReturn_frame s
    exact ⟨s.exceptionReturn, rfl, epc.trans (BitVec.add_zero _).symm, esp, emax, emin, esc, eregs,
      keepsMem_of_mem emem, ectl⟩

/-! ### The banks -/

/-- A taken branch takes CB from NB, where there are banks (48_branch.md R542). -/
def BanksTaken (s t : State) : Prop := t.cb = (if s.hasBank then s.nb else s.cb) ∧ t.nb = s.nb

/-- A branch that is not taken takes NB from CB, where there are banks. -/
def BanksNotTaken (s t : State) : Prop := t.nb = (if s.hasBank then s.cb else s.nb) ∧ t.cb = s.cb

theorem banksTaken_branchTo (s : State) (w : Word) : BanksTaken s (s.branchTo w) := ⟨rfl, rfl⟩

theorem banksNotTaken_notTaken (s : State) : BanksNotTaken s s.notTaken := ⟨rfl, rfl⟩

theorem banksTaken_pushBytes (s : State) (bs : List Byte) (w : Word) :
    BanksTaken s ((pushBytes s bs).branchTo w) := by
  have hkeeps := pushBytes_keeps s bs
  have hcb : (pushBytes s bs).cb = s.cb := hkeeps.regs .cb (by simp)
  have hnb : (pushBytes s bs).nb = s.nb := hkeeps.regs .nb (by simp)
  obtain ⟨htaken, hkept⟩ := banksTaken_branchTo (pushBytes s bs) w
  rw [hasBank_congr hkeeps.model, hcb, hnb] at htaken
  exact ⟨htaken, hkept.trans hnb⟩

theorem banksTaken_callTo (s : State) (w : Word) : BanksTaken s (s.callTo w) := by
  rw [State.callTo, pushRet_eq]
  exact banksTaken_pushBytes s _ w

theorem banksTaken_callIndirect (s : State) (hhll : Word) : BanksTaken s (s.callIndirect hhll) := by
  rw [State.callIndirect, pushRet_eq]
  exact banksTaken_pushBytes s _ _

theorem banksTaken_softwareInterrupt (s : State) (kk : Byte) : BanksTaken s (s.softwareInterrupt kk) := by
  simp only [State.softwareInterrupt, pushRet_push8_eq]
  exact banksTaken_pushBytes s _ _

/-- The banks after a relative jump or call, by whether its condition holds. -/
theorem banks_relative {i : Instr} {c : Option Condition} {d : Word} (h : RelativeJump i c d ∨ RelativeCall i c d)
    {s t : State} (hexec : exec i s = .next t) :
    (c.elim true s.holds = true → BanksTaken s t) ∧ (c.elim true s.holds = false → BanksNotTaken s t) := by
  rcases h with h | h
  · cases (exec_relativeJump h s).symm.trans hexec
    exact ⟨fun hc => by rw [hc]; exact banksTaken_branchTo s _, fun hc => by rw [hc]; exact banksNotTaken_notTaken s⟩
  · cases (exec_relativeCall h s).symm.trans hexec
    exact ⟨fun hc => by rw [hc]; exact banksTaken_callTo s _, fun hc => by rw [hc]; exact banksNotTaken_notTaken s⟩

theorem banks_djrNZ (s : State) (rr : Byte) :
    (s.b - 1#8 ≠ 0#8 → BanksTaken s (s.decrementAndBranch rr)) ∧
      (s.b - 1#8 = 0#8 → BanksNotTaken s (s.decrementAndBranch rr)) := by
  refine ⟨fun hb => ?_, fun hb => ?_⟩
  · rw [State.decrementAndBranch, decide_eq_true hb]
    exact ⟨rfl, rfl⟩
  · rw [State.decrementAndBranch, decide_eq_false (not_not.mpr hb)]
    exact ⟨rfl, rfl⟩

/-- The jumps and calls without a condition are always taken. -/
theorem banks_indirect {i : Instr}
    (h : i = .jpHL ∨ (∃ kk, i = .jp_atkk kk) ∨ (∃ w, i = .call_athhll w) ∨ ∃ kk, i = .int_atkk kk) {s t : State}
    (hexec : exec i s = .next t) : BanksTaken s t := by
  obtain rfl | ⟨kk, rfl⟩ | ⟨w, rfl⟩ | ⟨kk, rfl⟩ := h <;> cases hexec
  · exact banksTaken_branchTo s _
  · exact banksTaken_branchTo s _
  · exact banksTaken_callIndirect s w
  · exact banksTaken_softwareInterrupt s kk

/-- Settles O15: the banks of the three kinds of branch. -/
theorem bankTransferAtBranches : Obligations.BankTransferAtBranches := by
  refine fun s t => ⟨fun i c d h hexec => banks_relative h hexec, fun rr hexec => ?_, fun i h hexec =>
    banks_indirect h hexec⟩
  cases hexec
  exact banks_djrNZ s rr

end Sys2Proof.Proofs


/-! Instruction boundaries, exceptions, standby and reset (60_exceptions.md, 70_reset_and_hazards.md R660, R671): the
choice at a boundary, the one exception entry behind DIV, NMI and the IRQs, and its return. -/

namespace Sys2Proof.Proofs

open Sys2Proof Sys2Proof.Machine Sys2Proof.Claims Sys2Proof.Laws

/-! ### Which interrupt is picked -/

/-- The two bits of a mask level (10_state.md R27). -/
theorem toNat_mask : ∀ m : BitVec 2, m.toNat = 2 * (m.getLsbD 1).toNat + (m.getLsbD 0).toNat := by decide

theorem maskLevel_eq (s : State) : s.maskLevel = 2 * (s.sc.getLsbD 7).toNat + (s.sc.getLsbD 6).toNat := by
  rw [State.maskLevel, toNat_mask, BitVec.getLsbD_extractLsb', BitVec.getLsbD_extractLsb']
  simp

theorem acceptable_iff (s : State) (lvl : IntLevel) : s.acceptable lvl = true ↔
    s.requested lvl = true ∧ s.pins.imask = false ∧
      2 * (s.sc.getLsbD 7).toNat + (s.sc.getLsbD 6).toNat < priority lvl := by
  simp [State.acceptable, maskLevel_eq, and_assoc]

/-- The picked interrupt is acceptable and no acceptable one has a higher level. -/
theorem pick_some {s : State} {lvl : IntLevel} (h : s.pick = some lvl) :
    s.acceptable lvl = true ∧ ∀ other, s.acceptable other = true → priority other ≤ priority lvl := by
  unfold State.pick at h
  split_ifs at h with hnmi h3 h2 h1 <;> cases h
  · exact ⟨hnmi, fun other _ => by cases other <;> decide⟩
  · refine ⟨h3, fun other hother => ?_⟩
    cases other with
    | nmi => exact absurd hother hnmi
    | irq1 | irq2 | irq3 => decide
  · refine ⟨h2, fun other hother => ?_⟩
    cases other with
    | nmi => exact absurd hother hnmi
    | irq3 => exact absurd hother h3
    | irq1 | irq2 => decide
  · refine ⟨h1, fun other hother => ?_⟩
    cases other with
    | nmi => exact absurd hother hnmi
    | irq3 => exact absurd hother h3
    | irq2 => exact absurd hother h2
    | irq1 => decide

theorem pick_none_iff (s : State) : s.pick = none ↔ ∀ lvl, s.acceptable lvl = false := by
  constructor
  · intro h lvl
    unfold State.pick at h
    split_ifs at h with hnmi h3 h2 h1
    cases lvl with
    | nmi => exact Bool.eq_false_iff.mpr hnmi
    | irq3 => exact Bool.eq_false_iff.mpr h3
    | irq2 => exact Bool.eq_false_iff.mpr h2
    | irq1 => exact Bool.eq_false_iff.mpr h1
  · intro h
    simp [State.pick, h]

theorem priority_injective {x y : IntLevel} (h : priority x = priority y) : x = y := by
  cases x <;> cases y <;> simp_all [priority]

/-- The acceptable interrupt of highest level is the one picked. -/
theorem pick_some_iff (s : State) (lvl : IntLevel) : s.pick = some lvl ↔
    s.acceptable lvl = true ∧ ∀ other, s.acceptable other = true → priority other ≤ priority lvl := by
  refine ⟨pick_some, fun ⟨hacc, hhighest⟩ => ?_⟩
  cases hpick : s.pick with
  | none =>
    have hnone := (pick_none_iff s).mp hpick lvl
    rw [hacc] at hnone
    cases hnone
  | some other =>
    obtain ⟨hother, hmax⟩ := pick_some hpick
    rw [priority_injective (Nat.le_antisymm (hhighest other hother) (hmax lvl hacc))]

/-- Settles O56: acceptance read off the two mask bits, and the choice of the highest level. -/
theorem acceptedInterruptIsHighestAboveMask : Obligations.AcceptedInterruptIsHighestAboveMask := by
  intro s
  refine ⟨?_, ?_, ?_, ?_, pick_none_iff s, pick_some_iff s⟩ <;> rw [acceptable_iff] <;>
    cases s.sc.getLsbD 7 <;> cases s.sc.getLsbD 6 <;> simp [priority, State.requested]

/-! ### What a step does at each kind of boundary -/

theorem step_reset {s : State} (h : s.sample.pins.reset = true) : step s = .next s.sample.resetSequence := by
  simp [step, stepSampled, State.boundaryAction, h]

theorem step_wait {s : State} (hreset : s.sample.pins.reset = false) (hrun : s.sample.runState ≠ .running)
    (hpick : s.sample.pick = none) : step s = .next s.sample := by
  simp [step, stepSampled, State.boundaryAction, hreset, hrun, hpick]

theorem step_enter {s : State} {lvl : IntLevel} (hreset : s.sample.pins.reset = false)
    (hpick : s.sample.pick = some lvl) (hhold : s.sample.runState = .running → s.sample.inhibitInt = false) :
    step s = .next (s.sample.enterInterrupt lvl) := by
  by_cases hrun : s.sample.runState = .running
  · simp [step, stepSampled, State.boundaryAction, hreset, hrun, hpick, hhold hrun]
  · simp [step, stepSampled, State.boundaryAction, hreset, hrun, hpick]

theorem boundaryAction_execute {s : State} (hreset : s.pins.reset = false) (hrun : s.runState = .running)
    (hhold : s.inhibitInt = true ∨ s.pick = none) : s.boundaryAction = .execute := by
  unfold State.boundaryAction
  rcases hhold with hhold | hhold
  · cases hpick : s.pick <;> simp [hreset, hrun, hhold]
  · simp [hreset, hrun, hhold]

theorem step_execute {s : State} (haction : s.sample.boundaryAction = .execute) {i : Instr} {n : Nat}
    (hdecode : decode s.sample.fetchBytes = .ok (i, n)) : step s = exec i (s.sample.advance n) := by
  simp [step, stepSampled, haction, State.fetch, hdecode]

theorem step_undefined {s : State} (haction : s.sample.boundaryAction = .execute) {e : DecodeError}
    (hdecode : decode s.sample.fetchBytes = .error e) : step s = .fault (.undefinedCode e) := by
  simp [step, stepSampled, haction, State.fetch, hdecode]

/-- Where the last store went elsewhere, the first byte fetched is the one in memory. -/
theorem firstByte_of_sure {s : State} (h : s.prefetchUnsure = false) : s.firstByte = s.programByte s.pc := by
  unfold State.firstByte
  split
  · rw [h]
    rfl
  · rfl

/-- Settles O5: the decoding decides the step. -/
theorem stepRunsDecodedInstruction : Obligations.StepRunsDecodedInstruction := by
  rintro s u rfl hreset hrun hhold
  have haction := boundaryAction_execute hreset hrun hhold
  refine ⟨fun i n hok => step_execute haction hok, fun e herr => step_undefined haction herr, fun hsure => ?_⟩
  rw [State.fetchBytes, firstByte_of_sure hsure]
  rfl

/-- Settles O57: nothing to accept in a standby state. -/
theorem standbyWaits : Obligations.StandbyWaits := by
  rintro s u rfl hreset hrun hpick
  exact step_wait hreset hrun hpick

/-! ### Taking an exception -/

theorem maskInto_low (sc : Byte) (m : BitVec 2) : (maskInto sc m).extractLsb' 0 6 = sc.extractLsb' 0 6 :=
  BitVec.extractLsb'_append_eq_right

theorem maskInto_mask (sc : Byte) (m : BitVec 2) : (maskInto sc m).extractLsb' 6 2 = m :=
  BitVec.extractLsb'_append_eq_left

/-- The pushes, the vector, the mask and the frame of an exception entry (60_exceptions.md R620). -/
theorem exceptionEntry_frame (s : State) (v : Byte) (ret : Word) (lvl : Option IntLevel) :
    EntersException v ret (lvl.map acceptedMask) s.sc s.nmiPending s (s.exceptionEntry v ret lvl) := by
  obtain ⟨hpc, _, hmem, hrun, hhold, hsc, _, _⟩ := exceptionEntry_spec s v ret lvl
  have hkeeps := pushBytes_keeps s (returnInfo s ret ++ [s.sc])
  have hpushed := pushBytes_pushed s _ (returnInfo_push_short s ret s.sc)
  rw [← pushRet_push8_eq] at hkeeps hpushed
  obtain ⟨hregs, _, _, _, hnmi, hmodel, hmode, hpins, henv⟩ := hkeeps
  refine ⟨pushed_congr rfl hmem hpushed, ?_, ?_, ?_, fun q hq => ?_, hrun, hhold, hnmi, hmodel, hmode, hpins, henv⟩
  · rw [hpc, State.vector, readMem_congr hmem, readMem_congr hmem]
  · rw [hsc]
    cases lvl with
    | none => rfl
    | some l => exact maskInto_low _ _
  · rw [hsc]
    cases lvl with
    | none => rfl
    | some l => exact maskInto_mask _ _
  · simp only [List.mem_cons, List.not_mem_nil, or_false, not_or] at hq
    obtain ⟨hscByte, hhigh, hlow⟩ := hq
    refine Eq.trans ?_ (hregs q (by simp [hhigh, hlow]))
    cases q <;> first | rfl | exact absurd rfl hscByte

/-- N V C Z = 1 1 0 0, the other bits of SC kept. -/
theorem flagsInto_overflow : ∀ sc : Byte,
    flagsInto sc ⟨some true, some true, some false, some false⟩ = sc &&& 0xF0#8 ||| 0x0C#8 := by decide

theorem divide_zero {s : State} (ha : s.a = 0#8) : s.divide =
    (s.writeFlags ⟨some true, some true, some false, some false⟩).exceptionEntry 0x02#8 s.pc none := if_pos ha

/-- Settles O54: the entry from the state whose SC shows the overflow flags. -/
theorem divideByZeroEntersException : Obligations.DivideByZeroEntersException := by
  intro s hmuldiv ha
  have hwrite := writeFlags_frame s ⟨some true, some true, some false, some false⟩
  obtain ⟨hpushed, hpc, hlow, hmask, hregs, hctl⟩ := exceptionEntry_frame
    (s.writeFlags ⟨some true, some true, some false, some false⟩) 0x02#8 s.pc none
  rw [writeFlags_sc, flagsInto_overflow] at hpushed hlow hmask
  rw [← divide_zero ha] at hpushed hpc hlow hmask hregs hctl
  exact ⟨_, onMulDivModels_next hmuldiv _, hpushed, hpc, hlow, hmask,
    keepsRegs_trans (keepsRegs_mono hwrite.2.1 (by simp)) hregs, hctl⟩

/-- Settles O55: the step enters the picked interrupt, each level with its vector and mask. -/
theorem stepEntersInterrupt : Obligations.StepEntersInterrupt := by
  rintro s u lvl rfl hreset hpick hhold
  refine ⟨_, step_enter hreset hpick hhold, ?_⟩
  cases lvl with
  | nmi => exact exceptionEntry_frame { s.sample with nmiPending := false } 0x04#8 s.sample.pc (some .nmi)
  | irq3 => exact exceptionEntry_frame s.sample _ s.sample.pc (some .irq3)
  | irq2 => exact exceptionEntry_frame s.sample _ s.sample.pc (some .irq2)
  | irq1 => exact exceptionEntry_frame s.sample _ s.sample.pc (some .irq1)

/-! ### Returning from it -/

/-- The bytes that an entry leaves above SP: SC, the return address, and in maximum mode CB. -/
theorem stackByte_of_entry {s t : State} {ret : Word} (hpushed : Pushed (returnInfo s ret ++ [s.sc]) s t)
    (hpins : t.pins = s.pins) (hmodel : t.model = s.model) :
    stackByte t 0 = s.sc ∧ stackByte t 1 = lowByte ret ∧ stackByte t 2 = highByte ret ∧
      (s.maxMode = true → stackByte t 3 = s.cb) := by
  have hbyte := pushed_stackByte hpushed hpins hmodel (returnInfo_push_short s ret s.sc)
  unfold returnInfo at hbyte
  cases hmax : s.maxMode <;> simp only [hmax, if_true, Bool.false_eq_true, if_false] at hbyte
  · exact ⟨Option.some.inj (hbyte 0 (by simp)), Option.some.inj (hbyte 1 (by simp)),
      Option.some.inj (hbyte 2 (by simp)), (nomatch ·)⟩
  · exact ⟨Option.some.inj (hbyte 0 (by simp)), Option.some.inj (hbyte 1 (by simp)),
      Option.some.inj (hbyte 2 (by simp)), fun _ => Option.some.inj (hbyte 3 (by simp))⟩

/-- Settles O58: RETE takes the bytes that the entry pushed and leaves every other register as the entry did. -/
theorem entryThenRETEResumes : Obligations.EntryThenRETEResumes := by
  intro s v ret lvl
  obtain ⟨hpushed, _, _, _, hregs, hrun, _, _, hmodel, hmode, hpins, _⟩ := exceptionEntry_frame s v ret lvl
  obtain ⟨_, _, _, _, _, _, hnb, hcb⟩ := exceptionEntry_spec s v ret lvl
  obtain ⟨hpc', hsp', hmax', hmin', hsc', hregs', _, hrun', hhold', _⟩ :=
    exceptionReturn_frame (s.exceptionEntry v ret lvl)
  obtain ⟨hbyteSC, hbyteLow, hbyteHigh, hbyteCB⟩ := stackByte_of_entry hpushed hpins hmodel
  rw [maxMode_congr hmodel hmode] at hsp' hmax' hmin'
  have hsc : (s.exceptionEntry v ret lvl).exceptionReturn.sc = s.sc := hsc'.trans hbyteSC
  have hsp : (s.exceptionEntry v ret lvl).exceptionReturn.sp = s.sp := by
    rw [hsp', hpushed.1, List.length_append, returnInfo_length, List.length_singleton, Nat.add_right_comm,
      BitVec.sub_add_cancel]
  have hbanks : (s.exceptionEntry v ret lvl).exceptionReturn.cb = s.cb ∧
      (s.exceptionEntry v ret lvl).exceptionReturn.nb = (if s.maxMode then s.cb else s.nb) := by
    cases hmax : s.maxMode with
    | true =>
      rw [hbyteCB hmax] at hmax'
      exact hmax' hmax
    | false => exact ⟨(hmin' hmax).1.trans hcb, (hmin' hmax).2.trans hnb⟩
  refine ⟨_, rfl, ?_, hsc, hsp, hbanks.1, hbanks.2, fun q hq => ?_, hhold', hrun'.trans hrun⟩
  · rw [hpc', hbyteLow, hbyteHigh, word16_bytes]
  · by_cases hkept : q ∈ [.sc, .nb, .cb, .spHigh, .spLow]
    · simp only [List.mem_cons, List.not_mem_nil, or_false] at hkept hq
      rcases hkept with rfl | rfl | rfl | rfl | rfl
      · exact hsc
      · exact absurd rfl hq
      · exact hbanks.1
      · exact congrArg highByte hsp
      · exact congrArg lowByte hsp
    · exact (hregs' q hkept).trans (keepsRegs_mono hregs (by simp +contextual) q hkept)

/-! ### NOP, HALT, SLP and reset -/

/-- Settles O53: at most the run state is another one. -/
theorem nopHaltSlpComplete : Obligations.NopHaltSlpComplete := by
  intro s i run h
  simp only [List.mem_cons, List.not_mem_nil, or_false, Prod.mk.injEq] at h
  obtain ⟨rfl, rfl⟩ | ⟨rfl, rfl⟩ | ⟨rfl, rfl⟩ := h <;>
    exact ⟨_, rfl, fun q _ => by cases q <;> rfl, fun _ _ => rfl, rfl, rfl, rfl, rfl, rfl, rfl, rfl, rfl⟩

/-- Settles O59: the reset sequence from the sampled state, whose memory and CPU model are those before the step. -/
theorem stepResets : Obligations.StepResets := by
  rintro s u rfl hreset
  obtain ⟨hmodel, _, hmem, _⟩ := sample_spec s
  refine ⟨_, step_reset hreset, rfl, fun hbank => ?_, ?_, rfl, rfl, rfl, hmem⟩
  · have hbank' : s.sample.hasBank = true := (hasBank_congr hmodel).trans hbank
    simp [State.resetSequence, hbank']
  · rw [← readMem_congr hmem, ← readMem_congr hmem]
    rfl

/-- Settles O60: the fields of `State.reset` evaluated. -/
theorem resetStateValues : Obligations.ResetStateValues :=
  ⟨rfl, rfl, rfl, rfl, rfl, rfl, rfl, rfl, rfl, rfl⟩

end Sys2Proof.Proofs


/-! What every instruction and every step keeps. `Effect` collects what the statements about the whole instruction set ask
of one instruction; it is proved family by family from the families' own statements. `step_cases` says once what a
step can be. -/

namespace Sys2Proof.Proofs

open Sys2Proof Sys2Proof.Machine Sys2Proof.Claims Sys2Proof.Laws

/-! ### Completion -/

/-- Every instruction that the CPU model has completes. -/
theorem exec_completes {i : Instr} {s : State} (h : i.wellFormed s.model = true) : ∃ t, exec i s = .next t := by
  cases i with
  | mlt | div => exact ⟨_, onMulDivModels_next h _⟩
  | ldNB_imm | ldEP_imm | ldXP_imm | ldYP_imm | ldA_NB | ldA_EP | ldA_XP | ldA_YP | ldNB_A | ldEP_A | ldXP_A | ldYP_A
  | pushEP | pushIP | pushALE | popEP | popIP | popALE => exact ⟨_, onBankModels_next h _⟩
  | _ => exact ⟨_, rfl⟩

/-- Settles O10: the instructions that need something stop where it is missing; all others always complete. -/
theorem instructionCompletesExactlyWhenAvailable : Obligations.InstructionCompletesExactlyWhenAvailable :=
  fun _ _ => ⟨exec_completes, exec_absent⟩

/-- What a statement of completion says of the next state, said of the state that `exec` answers. -/
theorem of_completion {P : State → Prop} {i : Instr} {s t : State} (h : ∃ u, exec i s = .next u ∧ P u)
    (hexec : exec i s = .next t) : P t := by
  obtain ⟨u, hu, hP⟩ := h
  cases hu.symm.trans hexec
  exact hP

/-! ### The sets of instructions, by family -/

/-- Whether an instruction is in each of the sets of the statements. -/
structure InSets (i : Instr) (branch nb sp sc hold : Bool) : Prop where
  branch : isBranch i = branch
  nb : writesNB i = nb
  sp : writesSP i = sp
  sc : writesWholeSC i = sc
  hold : inInhibitSet i = hold

/-- An instruction that is in none of the sets. -/
abbrev InNoSet (i : Instr) : Prop := InSets i false false false false false

theorem inSets_registerLoad8 {i : Instr} {r : Reg8} {x : Operand8} (h : RegisterLoad8 i r x) : InNoSet i := by
  cases h <;> exact ⟨rfl, rfl, rfl, rfl, rfl⟩

theorem inSets_memoryLoad8 {i : Instr} {m : MemOperand} {x : Operand8} (h : MemoryLoad8 i m x) : InNoSet i := by
  cases h <;> exact ⟨rfl, rfl, rfl, rfl, rfl⟩

theorem inSets_bankRegisterLoad {i : Instr} {r : Reg8} {x : Operand8} (h : BankRegisterLoad i r x) :
    InSets i false (decide (r = .nb)) false false (decide (r = .nb)) := by
  cases h <;> exact ⟨rfl, rfl, rfl, rfl, rfl⟩

theorem inSets_scDestination {i : Instr} {v : State → Byte} (h : SCDestination i v) :
    InSets i false false false true true := by
  cases h <;> exact ⟨rfl, rfl, rfl, rfl, rfl⟩

theorem inSets_registerLoad16 {i : Instr} {r : Reg16} {x : Operand16} (h : RegisterLoad16 i r x) :
    InSets i false false (decide (r = .sp)) false false := by
  cases h <;> exact ⟨rfl, rfl, rfl, rfl, rfl⟩

theorem inSets_memoryLoad16 {i : Instr} {m : MemOperand} {r : Reg16} (h : MemoryLoad16 i m r) : InNoSet i := by
  cases h <;> exact ⟨rfl, rfl, rfl, rfl, rfl⟩

theorem inSets_pairExchange {i : Instr} {r : Reg16} (h : PairExchange i r) :
    InSets i false false (decide (r = .sp)) false false := by
  cases h <;> exact ⟨rfl, rfl, rfl, rfl, rfl⟩

theorem inSets_arithmetic8 {i : Instr} {op : ArithOp} {d x : Operand8} (h : Arithmetic8 i op d x) : InNoSet i := by
  cases h <;> exact ⟨rfl, rfl, rfl, rfl, rfl⟩

theorem inSets_compare8 {i : Instr} {x y : Operand8} (h : Compare8 i x y) : InNoSet i := by
  cases h <;> exact ⟨rfl, rfl, rfl, rfl, rfl⟩

theorem inSets_count8 {i : Instr} {d : Operand8} {delta : Byte} (h : Count8 i d delta) : InNoSet i := by
  cases h <;> exact ⟨rfl, rfl, rfl, rfl, rfl⟩

theorem inSets_negate8 {i : Instr} {d : Operand8} (h : Negate8 i d) : InNoSet i := by
  cases h <;> exact ⟨rfl, rfl, rfl, rfl, rfl⟩

theorem inSets_logic8 {i : Instr} {op : LogicOp} {d x : Operand8} (h : Logic8 i op d x) : InNoSet i := by
  cases h <;> exact ⟨rfl, rfl, rfl, rfl, rfl⟩

theorem inSets_bitTest {i : Instr} {x y : Operand8} (h : BitTest i x y) : InNoSet i := by
  cases h <;> exact ⟨rfl, rfl, rfl, rfl, rfl⟩

theorem inSets_complement8 {i : Instr} {d : Operand8} (h : Complement8 i d) : InNoSet i := by
  cases h <;> exact ⟨rfl, rfl, rfl, rfl, rfl⟩

theorem inSets_shift8 {i : Instr} {k : ShiftKind} {d : Operand8} (h : Shift8 i k d) : InNoSet i := by
  cases h <;> exact ⟨rfl, rfl, rfl, rfl, rfl⟩

theorem inSets_arithmetic16 {i : Instr} {op : ArithOp} {r : Reg16} {x : Operand16} (h : Arithmetic16 i op r x) :
    InSets i false false (decide (r = .sp)) false false := by
  cases h <;> exact ⟨rfl, rfl, rfl, rfl, rfl⟩

theorem inSets_compare16 {i : Instr} {r : Reg16} {x : Operand16} (h : Compare16 i r x) : InNoSet i := by
  cases h <;> exact ⟨rfl, rfl, rfl, rfl, rfl⟩

theorem inSets_count16 {i : Instr} {r : Reg16} {delta : Word} (h : Count16 i r delta) :
    InSets i false false (decide (r = .sp)) false false := by
  cases h <;> exact ⟨rfl, rfl, rfl, rfl, rfl⟩

theorem inSets_pushOf {i : Instr} {l : List RegByte} (h : PushOf i l) : InSets i false false true false false := by
  cases h <;> exact ⟨rfl, rfl, rfl, rfl, rfl⟩

theorem inSets_popOf {i : Instr} {l : List RegByte} (h : PopOf i l) :
    InSets i false false true (decide (i = .popSC)) (decide (i = .popSC)) := by
  cases h <;> exact ⟨rfl, rfl, rfl, rfl, rfl⟩

theorem inSets_relativeJump {i : Instr} {c : Option Condition} {d : Word} (h : RelativeJump i c d) :
    InSets i true false false false false := by
  cases h <;> exact ⟨rfl, rfl, rfl, rfl, rfl⟩

theorem inSets_relativeCall {i : Instr} {c : Option Condition} {d : Word} (h : RelativeCall i c d) :
    InSets i true false true false false := by
  cases h <;> exact ⟨rfl, rfl, rfl, rfl, rfl⟩

/-! ### The registers that an operand is -/

/-- The bytes of the register file that an 8-bit destination is. -/
def targetBytes : Operand8 → List RegByte
  | .reg r => [byteOf r]
  | .imm _ => []
  | .mem _ => []

theorem keepsRegs_of_writes8 {d : Operand8} {v : Byte} {also : List RegByte} {s t : State}
    (h : Writes8 d v also s t) : KeepsRegs (targetBytes d ++ also) s t := by
  cases d with
  | reg r => exact h.2.1
  | imm n => exact h.elim
  | mem m => exact h.2.1

theorem cb_not_mem_targetBytes (d : Operand8) : .cb ∉ targetBytes d := by
  cases d with
  | reg r => cases r <;> simp [targetBytes, byteOf]
  | imm | mem => simp [targetBytes]

theorem sp_not_mem_targetBytes (d : Operand8) : .spHigh ∉ targetBytes d ∧ .spLow ∉ targetBytes d := by
  cases d with
  | reg r => cases r <;> simp [targetBytes, byteOf]
  | imm | mem => simp [targetBytes]

theorem nb_not_mem_targetBytes {d : Operand8} (h : d ≠ .reg .nb) : .nb ∉ targetBytes d := by
  cases d with
  | reg r => cases r <;> simp_all [targetBytes, byteOf]
  | imm | mem => simp [targetBytes]

theorem sc_not_mem_targetBytes {d : Operand8} (h : d ≠ .reg .sc) : .sc ∉ targetBytes d := by
  cases d with
  | reg r => cases r <;> simp_all [targetBytes, byteOf]
  | imm | mem => simp [targetBytes]

theorem banks_sc_not_mem_bytesOf (r : Reg16) : .cb ∉ bytesOf r ∧ .nb ∉ bytesOf r ∧ .sc ∉ bytesOf r := by
  cases r <;> simp [bytesOf]

theorem sp_not_mem_bytesOf {r : Reg16} (h : r ≠ .sp) : .spHigh ∉ bytesOf r ∧ .spLow ∉ bytesOf r := by
  cases r <;> simp_all [bytesOf]

theorem registerLoad8_target {i : Instr} {r : Reg8} {x : Operand8} (h : RegisterLoad8 i r x) :
    r ≠ .sc ∧ r ≠ .nb := by cases h <;> simp

theorem bankRegisterLoad_target {i : Instr} {r : Reg8} {x : Operand8} (h : BankRegisterLoad i r x) : r ≠ .sc := by
  cases h <;> simp

theorem arithmetic8_ne_nb {i : Instr} {op : ArithOp} {d x : Operand8} (h : Arithmetic8 i op d x) :
    d ≠ .reg .nb := by cases h <;> simp

theorem count8_ne_nb {i : Instr} {d : Operand8} {delta : Byte} (h : Count8 i d delta) : d ≠ .reg .nb := by
  cases h <;> simp

theorem negate8_ne_nb {i : Instr} {d : Operand8} (h : Negate8 i d) : d ≠ .reg .nb := by cases h <;> simp

theorem logic8_ne_nb {i : Instr} {op : LogicOp} {d x : Operand8} (h : Logic8 i op d x) : d ≠ .reg .nb := by
  cases h <;> simp

theorem complement8_ne_nb {i : Instr} {d : Operand8} (h : Complement8 i d) : d ≠ .reg .nb := by cases h <;> simp

theorem shift8_ne_nb {i : Instr} {k : ShiftKind} {d : Operand8} (h : Shift8 i k d) : d ≠ .reg .nb := by
  cases h <;> simp

theorem popOf_banks {i : Instr} {l : List RegByte} (h : PopOf i l) : .cb ∉ l ∧ .nb ∉ l := by cases h <;> simp

theorem popOf_sc {i : Instr} {l : List RegByte} (h : PopOf i l) (hsc : i ≠ .popSC) : .sc ∉ l := by
  cases h <;> simp_all

/-! ### The effect of one instruction -/

/-- What the statements about all instructions ask of instruction `i` from `s` to `t`. -/
structure Effect (i : Instr) (s t : State) : Prop where
  nmi : t.nmiPending = s.nmiPending
  hold : s.inhibitInt = false → t.inhibitInt = inInhibitSet i
  modeBits : writesWholeSC i = false → KeepsModeBits s t
  cb : isBranch i = false → t.cb = s.cb
  nb : isBranch i = false → writesNB i = false → t.nb = s.nb
  pc : isBranch i = false → ¬ (i = .div ∧ s.a = 0#8) → t.pc = s.pc
  sp : writesSP i = false → ¬ (i = .div ∧ s.a = 0#8) → t.sp = s.sp
  banksAgree : isBranch i = true → s.maxMode = true → t.nb = t.cb

theorem keepsModeBits_of_keepsRegs {l : List RegByte} {s t : State} (h : KeepsRegs l s t) (hsc : .sc ∉ l) :
    KeepsModeBits s t := congrArg (BitVec.extractLsb' 4 4) (h .sc hsc)

theorem keepsModeBits_of_flags {n v c z : Bool} {s t : State} (h : Flags n v c z s t) : KeepsModeBits s t :=
  h.2.2.2.2

theorem sp_of_keepsRegs {l : List RegByte} {s t : State} (h : KeepsRegs l s t) (hsp : .spHigh ∉ l ∧ .spLow ∉ l) :
    t.sp = s.sp := by
  have hhigh : highByte t.sp = highByte s.sp := h .spHigh hsp.1
  have hlow : lowByte t.sp = lowByte s.sp := h .spLow hsp.2
  rw [← word16_bytes t.sp, hhigh, hlow, word16_bytes]

/-- An instruction that is no branch, from the registers it keeps. -/
theorem effect_of_keepsRegs {i : Instr} {nb sp sc hold : Bool} (hsets : InSets i false nb sp sc hold)
    {l : List RegByte} {run : RunState} {s t : State} (hregs : KeepsRegs l s t) (hpc : t.pc = s.pc)
    (hctl : Control run (hold || s.inhibitInt) s t) (hmode : sc = false → KeepsModeBits s t) (hcb : .cb ∉ l)
    (hnb : nb = false → .nb ∉ l) (hsp : sp = false → .spHigh ∉ l ∧ .spLow ∉ l) : Effect i s t where
  nmi := hctl.2.2.1
  hold h := by rw [hctl.2.1, hsets.hold, h, Bool.or_false]
  modeBits h := hmode (hsets.sc.symm.trans h)
  cb _ := hregs .cb hcb
  nb _ h := hregs .nb (hnb (hsets.nb.symm.trans h))
  pc _ _ := hpc
  sp h _ := sp_of_keepsRegs hregs (hsp (hsets.sp.symm.trans h))
  banksAgree h := by rw [hsets.branch] at h; cases h

/-- An instruction in none of the sets, from the registers it keeps. -/
theorem effect_of_inNoSet {i : Instr} (hsets : InNoSet i) {l : List RegByte} {run : RunState} {s t : State}
    (hregs : KeepsRegs l s t) (hpc : t.pc = s.pc) (hctl : Control run s.inhibitInt s t) (hmode : KeepsModeBits s t)
    (hbanks : .cb ∉ l ∧ .nb ∉ l) (hsp : .spHigh ∉ l ∧ .spLow ∉ l) : Effect i s t :=
  effect_of_keepsRegs hsets hregs hpc hctl (fun _ => hmode) hbanks.1 (fun _ => hbanks.2) (fun _ => hsp)

/-- An 8-bit result and its flags written: the arithmetic, logic and shifts. -/
theorem effect_of_result8 {i : Instr} (hsets : InNoSet i) {d : Operand8} (hd : d ≠ .reg .nb) {r : Byte}
    {n v c z : Bool} {s t : State}
    (h : Writes8 d r [.sc] s t ∧ Flags n v c z s t ∧ KeepsControl s t) : Effect i s t := by
  obtain ⟨hwrites, hflags, hpc, hctl⟩ := h
  refine effect_of_inNoSet hsets (keepsRegs_of_writes8 hwrites) hpc hctl (keepsModeBits_of_flags hflags) ?_ ?_
  · simp [cb_not_mem_targetBytes d, nb_not_mem_targetBytes hd]
  · simp [sp_not_mem_targetBytes d]

/-- A 16-bit result written, with or without flags: the loads and the arithmetic of registers. -/
theorem effect_of_result16 {i : Instr} {r : Reg16} (hsets : InSets i false false (decide (r = .sp)) false false)
    {v : Word} {also : List RegByte} (halso : ∀ q ∈ also, q = .sc) {s t : State} (hwrites : WritesReg16 r v also s t)
    (hmode : KeepsModeBits s t) (hctl : KeepsControl s t) : Effect i s t := by
  obtain ⟨hcb, hnb, _⟩ := banks_sc_not_mem_bytesOf r
  have hnot {q : RegByte} (hq : q ≠ .sc) (hr : q ∉ bytesOf r) : q ∉ bytesOf r ++ also := by
    rw [List.mem_append, not_or]
    exact ⟨hr, fun h => hq (halso q h)⟩
  refine effect_of_keepsRegs hsets hwrites.2.1 hctl.1 hctl.2 (fun _ => hmode) (hnot (by simp) hcb)
    (fun _ => hnot (by simp) hnb) fun hsp => ?_
  obtain ⟨hhigh, hlow⟩ := sp_not_mem_bytesOf (of_decide_eq_false hsp)
  exact ⟨hnot (by simp) hhigh, hnot (by simp) hlow⟩

/-- A branch, from the registers it keeps and the banks it leaves. -/
theorem effect_of_branch {i : Instr} {nb sp sc hold : Bool} (hsets : InSets i true nb sp sc hold)
    {l : List RegByte} {run : RunState} {s t : State} (hregs : KeepsRegs l s t)
    (hctl : Control run (hold || s.inhibitInt) s t) (hmode : sc = false → KeepsModeBits s t)
    (hsp : sp = false → .spHigh ∉ l ∧ .spLow ∉ l) (hbanks : s.maxMode = true → t.nb = t.cb) : Effect i s t where
  nmi := hctl.2.2.1
  hold h := by rw [hctl.2.1, hsets.hold, h, Bool.or_false]
  modeBits h := hmode (hsets.sc.symm.trans h)
  cb h := by rw [hsets.branch] at h; cases h
  nb h := by rw [hsets.branch] at h; cases h
  pc h := by rw [hsets.branch] at h; cases h
  sp h _ := sp_of_keepsRegs hregs (hsp (hsets.sp.symm.trans h))
  banksAgree _ := hbanks

/-! ### The banks after a branch in maximum mode -/

theorem hasBank_of_maxMode {s : State} (h : s.maxMode = true) : s.hasBank = true :=
  ((Bool.and_eq_true _ _).mp h).1

theorem banksAgree_of_taken {s t : State} (h : BanksTaken s t) (hmax : s.maxMode = true) : t.nb = t.cb := by
  rw [h.1, h.2, if_pos (hasBank_of_maxMode hmax)]

theorem banksAgree_of_notTaken {s t : State} (h : BanksNotTaken s t) (hmax : s.maxMode = true) : t.nb = t.cb := by
  rw [h.1, h.2, if_pos (hasBank_of_maxMode hmax)]

theorem banksAgree_relative {i : Instr} {c : Option Condition} {d : Word}
    (h : RelativeJump i c d ∨ RelativeCall i c d) {s t : State} (hexec : exec i s = .next t)
    (hmax : s.maxMode = true) : t.nb = t.cb := by
  obtain ⟨htaken, hnotTaken⟩ := banks_relative h hexec
  cases hc : c.elim true s.holds with
  | true => exact banksAgree_of_taken (htaken hc) hmax
  | false => exact banksAgree_of_notTaken (hnotTaken hc) hmax

theorem banksAgree_djrNZ (s : State) (rr : Byte) (hmax : s.maxMode = true) :
    (s.decrementAndBranch rr).nb = (s.decrementAndBranch rr).cb := by
  by_cases hb : s.b - 1#8 = 0#8
  · exact banksAgree_of_notTaken ((banks_djrNZ s rr).2 hb) hmax
  · exact banksAgree_of_taken ((banks_djrNZ s rr).1 hb) hmax

/-! ### The effect, family by family -/

theorem effect_bankRegisterLoad {i : Instr} {r : Reg8} {x : Operand8} (h : BankRegisterLoad i r x) {s t : State}
    (hexec : exec i s = .next t) : Effect i s t := by
  cases eq_of_onBankModels ((exec_bankRegisterLoad h s).symm.trans hexec)
  obtain ⟨hwrites, hpc, hctl⟩ := bankLoad_frame s r x
  refine effect_of_keepsRegs (inSets_bankRegisterLoad h) (keepsRegs_of_writes8 hwrites) hpc hctl (fun _ => ?_) ?_
    (fun hnb => ?_) (fun _ => ?_)
  · exact keepsModeBits_of_keepsRegs (keepsRegs_of_writes8 hwrites)
      (by simpa using sc_not_mem_targetBytes (by simpa using bankRegisterLoad_target h))
  · simpa using cb_not_mem_targetBytes (.reg r)
  · simpa using nb_not_mem_targetBytes (by simpa using hnb)
  · simpa using sp_not_mem_targetBytes (.reg r)

theorem effect_registerLoad8 {i : Instr} {r : Reg8} {x : Operand8} (h : RegisterLoad8 i r x) {s t : State}
    (hexec : exec i s = .next t) : Effect i s t := by
  obtain ⟨hwrites, hpc, hctl⟩ := of_completion (registerLoads8 i r x s h) hexec
  obtain ⟨hsc, hnb⟩ := registerLoad8_target h
  have hregs := keepsRegs_of_writes8 hwrites
  rw [List.append_nil] at hregs
  exact effect_of_inNoSet (inSets_registerLoad8 h) hregs hpc hctl
    (keepsModeBits_of_keepsRegs hregs (sc_not_mem_targetBytes (by simpa using hsc)))
    ⟨cb_not_mem_targetBytes _, nb_not_mem_targetBytes (by simpa using hnb)⟩ (sp_not_mem_targetBytes _)

/-- SC as destination: the mode bits may change, nothing else but the hold. -/
theorem effect_scDestination {i : Instr} {v : State → Byte} (h : SCDestination i v) {s t : State}
    (hexec : exec i s = .next t) : Effect i s t := by
  cases (exec_scDestination h s).symm.trans hexec
  obtain ⟨_, hregs, _, hpc, hctl⟩ := writeSC_frame s (v s)
  exact effect_of_keepsRegs (inSets_scDestination h) hregs hpc hctl (nomatch ·) (by simp) (by simp) (by simp)

theorem effect_pairExchange {i : Instr} {r : Reg16} (h : PairExchange i r) {s t : State}
    (hexec : exec i s = .next t) : Effect i s t := by
  cases (exec_pairExchange h s).symm.trans hexec
  obtain ⟨_, _, hregs, _, hpc, hctl⟩ := exchangePair_frame s (pairExchange_ne_ba h)
  obtain ⟨hcb, hnb, hsc⟩ := banks_sc_not_mem_bytesOf r
  refine effect_of_keepsRegs (inSets_pairExchange h) hregs hpc hctl
    (fun _ => keepsModeBits_of_keepsRegs hregs (by simp [hsc])) (by simp [hcb]) (by simp [hnb]) fun hsp => ?_
  simp [sp_not_mem_bytesOf (of_decide_eq_false hsp)]

theorem effect_pushOf {i : Instr} {l : List RegByte} (h : PushOf i l) {s t : State} (hexec : exec i s = .next t) :
    Effect i s t := by
  obtain ⟨_, hregs, hpc, hctl⟩ := of_completion (pushesComplete i l s h (wellFormed_of_next hexec)) hexec
  exact effect_of_keepsRegs (inSets_pushOf h) hregs hpc hctl
    (fun _ => keepsModeBits_of_keepsRegs hregs (by simp)) (by simp) (by simp) (nomatch ·)

theorem effect_popOf {i : Instr} {l : List RegByte} (h : PopOf i l) {s t : State} (hexec : exec i s = .next t) :
    Effect i s t := by
  obtain ⟨_, _, hregs, _, hpc, hctl⟩ := of_completion (popsComplete i l s h (wellFormed_of_next hexec)) hexec
  obtain ⟨hcb, hnb⟩ := popOf_banks h
  refine effect_of_keepsRegs (inSets_popOf h) hregs hpc hctl (fun hsc => ?_) (by simp [hcb]) (by simp [hnb]) (nomatch ·)
  exact keepsModeBits_of_keepsRegs hregs (by simp [popOf_sc h (of_decide_eq_false hsc)])

theorem effect_relativeJump {i : Instr} {c : Option Condition} {d : Word} (h : RelativeJump i c d) {s t : State}
    (hexec : exec i s = .next t) : Effect i s t := by
  obtain ⟨_, hregs, _, hctl⟩ := of_completion (relativeJumpsComplete i c d s h) hexec
  exact effect_of_branch (inSets_relativeJump h) hregs hctl (fun _ => keepsModeBits_of_keepsRegs hregs (by simp))
    (by simp) (banksAgree_relative (.inl h) hexec)

theorem effect_relativeCall {i : Instr} {c : Option Condition} {d : Word} (h : RelativeCall i c d) {s t : State}
    (hexec : exec i s = .next t) : Effect i s t := by
  obtain ⟨_, _, hregs, hctl⟩ := of_completion (relativeCallsComplete i c d s h) hexec
  exact effect_of_branch (inSets_relativeCall h) hregs hctl (fun _ => keepsModeBits_of_keepsRegs hregs (by simp))
    (nomatch ·) (banksAgree_relative (.inr h) hexec)

/-- DJR writes B and Z as well. -/
theorem effect_djrNZ (s : State) (rr : Byte) : Effect (.djrNZ rr) s (s.decrementAndBranch rr) := by
  obtain ⟨_, _, hflags, hregs, _, hctl⟩ := of_completion (decrementJumpCompletes s rr) rfl
  exact effect_of_branch ⟨rfl, rfl, rfl, rfl, rfl⟩ hregs hctl (fun _ => keepsModeBits_of_flags hflags) (by simp)
    (banksAgree_djrNZ s rr)

/-- JP HL and JP [kk]. -/
theorem effect_branchTo {i : Instr} (hsets : InSets i true false false false false) (s : State) (w : Word) :
    Effect i s (s.branchTo w) := by
  obtain ⟨_, hregs, _, hctl⟩ := branchTo_frame s w
  exact effect_of_branch hsets hregs hctl (fun _ => keepsModeBits_of_keepsRegs hregs (by simp)) (by simp)
    (banksAgree_of_taken (banksTaken_branchTo s w))

theorem effect_callIndirect (s : State) (hhll : Word) : Effect (.call_athhll hhll) s (s.callIndirect hhll) := by
  obtain ⟨_, _, hregs, hctl⟩ := callIndirect_frame s hhll
  exact effect_of_branch ⟨rfl, rfl, rfl, rfl, rfl⟩ hregs hctl (fun _ => keepsModeBits_of_keepsRegs hregs (by simp))
    (nomatch ·) (banksAgree_of_taken (banksTaken_callIndirect s hhll))

theorem effect_softwareInterrupt (s : State) (kk : Byte) : Effect (.int_atkk kk) s (s.softwareInterrupt kk) := by
  obtain ⟨_, _, hregs, hctl⟩ := softwareInterrupt_frame s kk
  exact effect_of_branch ⟨rfl, rfl, rfl, rfl, rfl⟩ hregs hctl (fun _ => keepsModeBits_of_keepsRegs hregs (by simp))
    (nomatch ·) (banksAgree_of_taken (banksTaken_softwareInterrupt s kk))

/-- RET and RETS, which differ in PC alone. -/
theorem effect_popRet {i : Instr} (hsets : InSets i true false true false false) (s : State) : Effect i s s.popRet := by
  obtain ⟨_, _, hmax, _, _, hregs, _, hctl⟩ := popRet_frame s
  refine effect_of_branch hsets hregs hctl (fun _ => keepsModeBits_of_keepsRegs hregs (by simp)) (nomatch ·)
    fun h => ?_
  rw [(hmax h).1, (hmax h).2]

theorem effect_rets (s : State) : Effect .rets s (s.popRet.setPC (s.popRet.pc + 2#16)) := by
  obtain ⟨hnmi, hhold, hmode, hcb, hnb, _, hsp, hbanks⟩ := effect_popRet (i := .rets) ⟨rfl, rfl, rfl, rfl, rfl⟩ s
  exact ⟨hnmi, hhold, hmode, hcb, hnb, (nomatch ·), hsp, hbanks⟩

theorem effect_rete (s : State) : Effect .rete s s.exceptionReturn := by
  obtain ⟨_, _, hmax, _, _, hregs, _, hctl⟩ := exceptionReturn_frame s
  refine effect_of_branch ⟨rfl, rfl, rfl, rfl, rfl⟩ hregs hctl (nomatch ·) (nomatch ·) fun h => ?_
  rw [(hmax h).1, (hmax h).2]

/-- The exception of a zero divisor keeps the mode bits of the SC that it pushed. -/
theorem keepsModeBits_divide_zero {s : State} (ha : s.a = 0#8) : KeepsModeBits s s.divide := by
  obtain ⟨_, _, _, _, _, hsc, _, _⟩ := exceptionEntry_spec
    (s.writeFlags ⟨some true, some true, some false, some false⟩) 0x02#8 s.pc none
  rw [KeepsModeBits, divide_zero ha, hsc]
  exact flagsInto_high s.sc _

/-- DIV: a result and flags, or flags alone, or the exception of a zero divisor, which moves PC and SP. -/
theorem effect_div {s t : State} (hexec : exec .div s = .next t) : Effect .div s t := by
  have hmuldiv : s.hasMulDiv = true := wellFormed_of_next hexec
  by_cases ha : s.a = 0#8
  · cases eq_of_onMulDivModels hexec
    obtain ⟨_, _, _, _, hregs, _, hhold, hnmi, _⟩ :=
      of_completion (divideByZeroEntersException s hmuldiv ha) hexec
    exact ⟨hnmi, fun _ => hhold, fun _ => keepsModeBits_divide_zero ha, fun _ => hregs .cb (by simp),
      fun _ _ => hregs .nb (by simp), fun _ hdiv => absurd ⟨rfl, ha⟩ hdiv, fun _ hdiv => absurd ⟨rfl, ha⟩ hdiv,
      (nomatch ·)⟩
  · obtain ⟨_, ⟨hpc, hctl⟩, hfits, hoverflow⟩ := of_completion (divideCompletes s hmuldiv ha) hexec
    rcases Nat.lt_or_ge 255 ((s.reg16 .hl).toNat / s.a.toNat) with hq | hq
    · obtain ⟨hflags, hregs⟩ := hoverflow hq
      exact effect_of_inNoSet ⟨rfl, rfl, rfl, rfl, rfl⟩ hregs hpc hctl (keepsModeBits_of_flags hflags) (by simp)
        (by simp)
    · obtain ⟨_, _, hflags, hregs⟩ := hfits hq
      exact effect_of_inNoSet ⟨rfl, rfl, rfl, rfl, rfl⟩ hregs hpc hctl (keepsModeBits_of_flags hflags) (by simp)
        (by simp)

/-- NOP, HALT and SLP. -/
theorem effect_runState {i : Instr} {run : RunState} {s t : State}
    (h : (i, run) ∈ [(.nop, s.runState), (.halt, .halted), (.slp, .sleeping)]) (hsets : InNoSet i)
    (hexec : exec i s = .next t) : Effect i s t := by
  obtain ⟨hregs, _, hpc, hctl⟩ := of_completion (nopHaltSlpComplete s i run h) hexec
  exact effect_of_inNoSet hsets hregs hpc hctl (keepsModeBits_of_keepsRegs hregs (by simp)) (by simp) (by simp)

/-- No flag and no register but `l` written: the stores, the exchanges and swaps of bytes, PACK, UPCK and SEP. -/
theorem effect_of_moves {i : Instr} (hsets : InNoSet i) {l : List RegByte} {s t : State} (hregs : KeepsRegs l s t)
    (hctl : KeepsControl s t) (hbanks : .cb ∉ l ∧ .nb ∉ l ∧ .sc ∉ l) (hsp : .spHigh ∉ l ∧ .spLow ∉ l) :
    Effect i s t :=
  effect_of_inNoSet hsets hregs hctl.1 hctl.2 (keepsModeBits_of_keepsRegs hregs hbanks.2.2)
    ⟨hbanks.1, hbanks.2.1⟩ hsp

/-- Flags alone written: the compares and BIT. -/
theorem effect_of_flags {i : Instr} (hsets : InNoSet i) {n v c z : Bool} {s t : State}
    (h : Flags n v c z s t ∧ KeepsRegs [.sc] s t ∧ KeepsMem [] s t ∧ KeepsControl s t) : Effect i s t := by
  obtain ⟨hflags, hregs, _, hpc, hctl⟩ := h
  exact effect_of_inNoSet hsets hregs hpc hctl (keepsModeBits_of_flags hflags) (by simp) (by simp)

theorem effect_memoryLoad8 {i : Instr} {m : MemOperand} {x : Operand8} (h : MemoryLoad8 i m x) {s t : State}
    (hexec : exec i s = .next t) : Effect i s t := by
  obtain ⟨hwrites, hctl⟩ := of_completion (memoryLoads8 i m x s h) hexec
  exact effect_of_moves (inSets_memoryLoad8 h) (keepsRegs_of_writes8 hwrites) hctl (by simp [targetBytes])
    (by simp [targetBytes])

theorem effect_registerLoad16 {i : Instr} {r : Reg16} {x : Operand16} (h : RegisterLoad16 i r x) {s t : State}
    (hexec : exec i s = .next t) : Effect i s t := by
  obtain ⟨hwrites, hctl⟩ := of_completion (registerLoads16 i r x s h) hexec
  obtain ⟨_, _, hsc⟩ := banks_sc_not_mem_bytesOf r
  exact effect_of_result16 (inSets_registerLoad16 h) (by simp) hwrites
    (keepsModeBits_of_keepsRegs hwrites.2.1 (by simpa using hsc)) hctl

theorem effect_memoryLoad16 {i : Instr} {m : MemOperand} {r : Reg16} (h : MemoryLoad16 i m r) {s t : State}
    (hexec : exec i s = .next t) : Effect i s t := by
  obtain ⟨_, _, hregs, _, hctl⟩ := of_completion (memoryLoads16 i m r s h) hexec
  exact effect_of_moves (inSets_memoryLoad16 h) hregs hctl (by simp) (by simp)

theorem effect_arithmetic16 {i : Instr} {op : ArithOp} {r : Reg16} {x : Operand16} (h : Arithmetic16 i op r x)
    {s t : State} (hexec : exec i s = .next t) : Effect i s t := by
  obtain ⟨hwrites, hflags, hctl⟩ := of_completion (arithmetic16Completes i op r x s h) hexec
  exact effect_of_result16 (inSets_arithmetic16 h) (by simp) hwrites (keepsModeBits_of_flags hflags) hctl

theorem effect_count16 {i : Instr} {r : Reg16} {delta : Word} (h : Count16 i r delta) {s t : State}
    (hexec : exec i s = .next t) : Effect i s t := by
  obtain ⟨hwrites, hflags, hctl⟩ := of_completion (countingCompletes.2 i r delta s h) hexec
  exact effect_of_result16 (inSets_count16 h) (by simp) hwrites (keepsModeBits_of_flags hflags) hctl

theorem effect_negate8 {i : Instr} {d : Operand8} (h : Negate8 i d) {s t : State} (hexec : exec i s = .next t) :
    Effect i s t := by
  obtain ⟨hwrites, hflags, hctl, _⟩ := of_completion (negate8Completes i d s h) hexec
  exact effect_of_result8 (inSets_negate8 h) (negate8_ne_nb h) ⟨hwrites, hflags, hctl⟩

theorem effect_mlt {s t : State} (hexec : exec .mlt s = .next t) : Effect .mlt s t := by
  obtain ⟨_, hflags, hregs, _, hpc, hctl⟩ := of_completion (multiplyCompletes s (wellFormed_of_next hexec)) hexec
  exact effect_of_inNoSet ⟨rfl, rfl, rfl, rfl, rfl⟩ hregs hpc hctl (keepsModeBits_of_flags hflags) (by simp) (by simp)

/-- EX A,B and EX A,[HL]; SWAP A and SWAP [HL]; PACK, UPCK and SEP. -/
theorem effect_bytes {i : Instr} (h : i ∈ [.exA_B, .exA_atHL, .swapA, .swap_atHL, .pack, .upck, .sep]) {s t : State}
    (hexec : exec i s = .next t) : Effect i s t := by
  obtain ⟨hexAB, hexAM, hswapA, hswapM, _⟩ := exchangesAndSwapsComplete s
  obtain ⟨hpack, hupck, hsep⟩ := packUnpackAndSignExpand s
  have hfinish {j : Instr} {l : List RegByte} (hsets : InNoSet j)
      (hbytes : l ∈ [[], [.a], [.b], [.a, .b]]) (hregs : KeepsRegs l s t) (hctl : KeepsControl s t) : Effect j s t := by
    simp only [List.mem_cons, List.not_mem_nil, or_false] at hbytes
    obtain rfl | rfl | rfl | rfl := hbytes <;> exact effect_of_moves hsets hregs hctl (by simp) (by simp)
  simp only [List.mem_cons, List.not_mem_nil, or_false] at h
  obtain rfl | rfl | rfl | rfl | rfl | rfl | rfl := h
  · obtain ⟨_, _, hregs, _, hctl⟩ := of_completion hexAB hexec
    exact hfinish ⟨rfl, rfl, rfl, rfl, rfl⟩ (by simp) hregs hctl
  · obtain ⟨_, _, hregs, _, hctl⟩ := of_completion hexAM hexec
    exact hfinish ⟨rfl, rfl, rfl, rfl, rfl⟩ (by simp) hregs hctl
  · obtain ⟨_, hregs, _, hctl⟩ := of_completion hswapA hexec
    exact hfinish ⟨rfl, rfl, rfl, rfl, rfl⟩ (by simp) hregs hctl
  · obtain ⟨_, hregs, _, hctl⟩ := of_completion hswapM hexec
    exact hfinish ⟨rfl, rfl, rfl, rfl, rfl⟩ (by simp) hregs hctl
  · obtain ⟨_, hregs, _, hctl⟩ := of_completion hpack hexec
    exact hfinish ⟨rfl, rfl, rfl, rfl, rfl⟩ (by simp) hregs hctl
  · obtain ⟨_, _, hregs, _, hctl⟩ := of_completion hupck hexec
    exact hfinish ⟨rfl, rfl, rfl, rfl, rfl⟩ (by simp) hregs hctl
  · obtain ⟨_, _, hregs, _, hctl⟩ := of_completion hsep hexec
    exact hfinish ⟨rfl, rfl, rfl, rfl, rfl⟩ (by simp) hregs hctl

/-! ### The effect of every instruction -/

theorem exec_effect {i : Instr} {s t : State} (h : exec i s = .next t) : Effect i s t := by
  cases inFamily i with
  | registerLoad8 hi => exact effect_registerLoad8 hi h
  | memoryLoad8 hi => exact effect_memoryLoad8 hi h
  | bankRegisterLoad hi => exact effect_bankRegisterLoad hi h
  | sCDestination hi => exact effect_scDestination hi h
  | registerLoad16 hi => exact effect_registerLoad16 hi h
  | memoryLoad16 hi => exact effect_memoryLoad16 hi h
  | exA_B | exA_atHL | swapA | swap_atHL | pack | upck | sep => exact effect_bytes (by simp) h
  | pairExchange hi => exact effect_pairExchange hi h
  | arithmetic8 hi =>
    exact effect_of_result8 (inSets_arithmetic8 hi) (arithmetic8_ne_nb hi)
      (of_completion (arithmetic8Completes _ _ _ _ s hi) h)
  | compare8 hi => exact effect_of_flags (inSets_compare8 hi) (of_completion (comparesComplete.1 _ _ _ s hi) h)
  | count8 hi =>
    exact effect_of_result8 (inSets_count8 hi) (count8_ne_nb hi) (of_completion (countingCompletes.1 _ _ _ s hi) h)
  | negate8 hi => exact effect_negate8 hi h
  | logic8 hi =>
    exact effect_of_result8 (inSets_logic8 hi) (logic8_ne_nb hi) (of_completion (logic8Completes.1 _ _ _ _ s hi) h)
  | complement8 hi =>
    exact effect_of_result8 (inSets_complement8 hi) (complement8_ne_nb hi)
      (of_completion (logic8Completes.2.1 _ _ s hi) h)
  | bitTest hi => exact effect_of_flags (inSets_bitTest hi) (of_completion (logic8Completes.2.2 _ _ _ s hi) h)
  | shift8 hi =>
    exact effect_of_result8 (inSets_shift8 hi) (shift8_ne_nb hi) (of_completion (shift8Completes _ _ _ s hi) h)
  | mlt => exact effect_mlt h
  | div => exact effect_div h
  | arithmetic16 hi => exact effect_arithmetic16 hi h
  | compare16 hi => exact effect_of_flags (inSets_compare16 hi) (of_completion (comparesComplete.2 _ _ _ s hi) h)
  | count16 hi => exact effect_count16 hi h
  | pushOf hi => exact effect_pushOf hi h
  | popOf hi => exact effect_popOf hi h
  | relativeJump hi => exact effect_relativeJump hi h
  | relativeCall hi => exact effect_relativeCall hi h
  | djrNZ rr =>
    cases h
    exact effect_djrNZ s rr
  | jpHL | jp_atkk =>
    cases h
    exact effect_branchTo ⟨rfl, rfl, rfl, rfl, rfl⟩ s _
  | call_athhll hhll =>
    cases h
    exact effect_callIndirect s hhll
  | ret =>
    cases h
    exact effect_popRet ⟨rfl, rfl, rfl, rfl, rfl⟩ s
  | rete =>
    cases h
    exact effect_rete s
  | rets =>
    cases h
    exact effect_rets s
  | int_atkk kk =>
    cases h
    exact effect_softwareInterrupt s kk
  | nop => exact effect_runState (run := s.runState) (by simp) ⟨rfl, rfl, rfl, rfl, rfl⟩ h
  | halt => exact effect_runState (run := .halted) (by simp) ⟨rfl, rfl, rfl, rfl, rfl⟩ h
  | slp => exact effect_runState (run := .sleeping) (by simp) ⟨rfl, rfl, rfl, rfl, rfl⟩ h

/-- Settles O11, from the effect of every instruction. -/
theorem onlyInhibitSetHoldsInterruptsOff : Obligations.OnlyInhibitSetHoldsInterruptsOff :=
  fun _ _ _ hhold h => (exec_effect h).hold hhold

/-- Settles O12, from the effect of every instruction. -/
theorem modeBitsWrittenOnlyBySCInstructions : Obligations.ModeBitsWrittenOnlyBySCInstructions :=
  fun _ _ _ hsc h => (exec_effect h).modeBits hsc

/-- Settles O13, from the effect of every instruction. -/
theorem banksPCAndSPWrittenOnlyByTheirInstructions : Obligations.BanksPCAndSPWrittenOnlyByTheirInstructions := by
  intro i s t h
  obtain ⟨_, _, _, hcb, hnb, hpc, hsp, _⟩ := exec_effect h
  exact ⟨hcb, hnb, hpc, hsp⟩

/-- Settles O14, from the effect of every instruction. -/
theorem banksAgreeAfterEveryBranch : Obligations.BanksAgreeAfterEveryBranch :=
  fun _ _ _ hbranch hmax h => (exec_effect h).banksAgree hbranch hmax

end Sys2Proof.Proofs


/-! What every step keeps (00_scope.md R3, 20_memory.md R60, R63, R66; 60_exceptions.md R604, R605): memory in its
canonical form, the CPU model, the mode and the inputs, by instruction and then by what a step can be. -/

namespace Sys2Proof.Proofs

open Sys2Proof Sys2Proof.Machine Sys2Proof.Claims Sys2Proof.Laws

/-! ### Every instruction is tame -/

theorem tame_pushBytes (s : State) (bs : List Byte) : Tame s (pushBytes s bs) := by
  induction bs generalizing s with
  | nil => exact Tame.refl s
  | cons v rest ih => exact (tame_push8 s v).trans (ih _)

theorem Popped.tame {l : List RegByte} {s t : State} (h : Popped l s t) : Tame s t := by
  obtain ⟨_, _, _, _, hmodel, hmode, hpins, henv⟩ := h.control
  exact tame_of_same hmodel hmode hpins henv h.mem

theorem tame_bankLoad (s : State) (r : Reg8) (x : Operand8) : Tame s (bankLoad s r x) := by
  unfold bankLoad
  split
  · exact (tame_load8 s _ _).trans (tame_holdInterrupts _)
  · exact tame_load8 s _ _

theorem tame_popOf {i : Instr} {l : List RegByte} (hi : PopOf i l) {s t : State} (h : exec i s = .next t) :
    Tame s t := by
  by_cases hsc : i = .popSC
  · subst hsc
    cases h
    exact (tame_popReg8 s .sc).trans (tame_holdInterrupts _)
  · obtain ⟨u, hexec, hpopped⟩ := exec_popOf hi hsc (wellFormed_of_next h)
    cases hexec.symm.trans h
    exact hpopped.tame

/-- An instruction is tame where the operation that it is is. -/
theorem tame_of_exec {i : Instr} {s t u : State} (hexec : exec i s = .next u) (htame : Tame s u)
    (h : exec i s = .next t) : Tame s t := by
  cases hexec.symm.trans h
  exact htame

theorem exec_tame {i : Instr} {s t : State} (h : exec i s = .next t) : Tame s t := by
  cases inFamily i with
  | registerLoad8 hi => exact tame_of_exec (exec_registerLoad8 hi s) (tame_load8 ..) h
  | memoryLoad8 hi => exact tame_of_exec (exec_memoryLoad8 hi s) (tame_load8 ..) h
  | bankRegisterLoad hi =>
    cases eq_of_onBankModels ((exec_bankRegisterLoad hi s).symm.trans h)
    exact tame_bankLoad ..
  | sCDestination hi => exact tame_of_exec (exec_scDestination hi s) (tame_writeSC ..) h
  | registerLoad16 hi => exact tame_of_exec (exec_registerLoad16 hi s) (tame_load16 ..) h
  | memoryLoad16 hi => exact tame_of_exec (exec_memoryLoad16 hi s) (tame_load16 ..) h
  | exA_B | exA_atHL => exact tame_of_exec rfl (tame_exchange8 ..) h
  | swapA | swap_atHL => exact tame_of_exec rfl (tame_swapNibbles ..) h
  | pairExchange hi => exact tame_of_exec (exec_pairExchange hi s) (tame_exchange16 ..) h
  | arithmetic8 hi => exact tame_of_exec (exec_arithmetic8 hi s) (tame_arith8 ..) h
  | compare8 hi => exact tame_of_exec (exec_compare8 hi s) (tame_compare8 ..) h
  | count8 hi => exact tame_of_exec (exec_count8 hi s) ((tame_write8 ..).trans (tame_writeFlags ..)) h
  | negate8 hi => exact tame_of_exec (exec_negate8 hi s) (tame_negate8 ..) h
  | logic8 hi => exact tame_of_exec (exec_logic8 hi s) (tame_logic8 ..) h
  | bitTest hi => exact tame_of_exec (exec_bitTest hi s) (tame_testBits ..) h
  | complement8 hi => exact tame_of_exec (exec_complement8 hi s) (tame_complement8 ..) h
  | shift8 hi => exact tame_of_exec (exec_shift8 hi s) (tame_shift8 ..) h
  | pack => exact tame_of_exec rfl (tame_pack s) h
  | upck => exact tame_of_exec rfl (tame_unpack s) h
  | sep => exact tame_of_exec rfl (tame_signExpand s) h
  | mlt =>
    cases eq_of_onMulDivModels h
    exact tame_multiply s
  | div =>
    cases eq_of_onMulDivModels h
    exact tame_divide s
  | arithmetic16 hi => exact tame_of_exec (exec_arithmetic16 hi s) (tame_arith16 ..) h
  | compare16 hi => exact tame_of_exec (exec_compare16 hi s) (tame_compare16 ..) h
  | count16 hi => exact tame_of_exec (exec_count16 hi s) ((tame_setReg16 ..).trans (tame_writeFlags ..)) h
  | pushOf hi => exact tame_of_exec (exec_pushOf hi (wellFormed_of_next h)) (tame_pushBytes ..) h
  | popOf hi => exact tame_popOf hi h
  | relativeJump hi => exact tame_of_exec (exec_relativeJump hi s) (tame_branchIf ..) h
  | relativeCall hi => exact tame_of_exec (exec_relativeCall hi s) (tame_callIf ..) h
  | djrNZ rr => exact tame_of_exec rfl (tame_decrementAndBranch s rr) h
  | jpHL | jp_atkk => exact tame_of_exec rfl (tame_branchTo ..) h
  | call_athhll hhll => exact tame_of_exec rfl (tame_callIndirect s hhll) h
  | ret => exact tame_of_exec rfl (tame_popRet s) h
  | rete => exact tame_of_exec rfl (tame_exceptionReturn s) h
  | rets => exact tame_of_exec rfl ((tame_popRet s).trans (tame_setPC ..)) h
  | int_atkk kk => exact tame_of_exec rfl (tame_softwareInterrupt s kk) h
  | nop | halt | slp =>
    cases h
    exact tame_of_same rfl rfl rfl rfl rfl

/-! ### What a step can be -/

/-- A step that does not stop resets, enters the picked interrupt, waits, or executes an instruction, in the sampled
state (60_exceptions.md R603). -/
theorem step_cases {s t : State} (h : step s = .next t) :
    (s.sample.pins.reset = true ∧ t = s.sample.resetSequence) ∨
      (∃ lvl, s.sample.pick = some lvl ∧ (s.sample.runState = .running → s.sample.inhibitInt = false) ∧
        t = s.sample.enterInterrupt lvl) ∨
      t = s.sample ∨
      ∃ i n, exec i (s.sample.advance n) = .next t := by
  obtain ⟨hreset, _⟩ | ⟨hreset, _, hrun, hpick⟩ | ⟨_, haction, _⟩ | ⟨hreset, lvl, _, hpick, hhold⟩ :=
    boundaryAction_cases s.sample
  · cases (step_reset hreset).symm.trans h
    exact .inl ⟨hreset, rfl⟩
  · cases (step_wait hreset hrun hpick).symm.trans h
    exact .inr (.inr (.inl rfl))
  · cases hdecode : decode s.sample.fetchBytes with
    | ok instr => exact .inr (.inr (.inr ⟨_, _, (step_execute haction hdecode).symm.trans h⟩))
    | error e => cases (step_undefined haction hdecode).symm.trans h
  · cases (step_enter hreset hpick hhold).symm.trans h
    exact .inr (.inl ⟨lvl, hpick, hhold, rfl⟩)

/-- After the inputs are sampled a step is tame. -/
theorem step_tame {s t : State} (h : step s = .next t) : Tame s.sample t := by
  obtain ⟨_, rfl⟩ | ⟨lvl, _, _, rfl⟩ | rfl | ⟨i, n, hexec⟩ := step_cases h
  · exact tame_resetSequence _
  · exact tame_enterInterrupt _ lvl
  · exact Tame.refl _
  · exact (tame_advance _ n).trans (exec_tame hexec)

/-- Settles O7: sampling leaves memory alone, and the rest of the step is tame. -/
theorem memoryInvariantKept : Obligations.MemoryInvariantKept := by
  intro s t hinv h
  obtain ⟨hmodel, _, hmem, _⟩ := sample_spec s
  exact (step_tame h).inv (MemoryInv.congr hmem hmodel hinv)

/-- Settles O8: no byte is written right after reset. -/
theorem resetHasMemoryInvariant : Obligations.ResetHasMemoryInvariant := ⟨rfl, (nomatch ·, ·)⟩

/-- Settles O9. -/
theorem modelAndModeNeverChange : Obligations.ModelAndModeNeverChange := by
  intro s t h
  obtain ⟨hmodel, hmode, _⟩ := sample_spec s
  exact ⟨(step_tame h).model.trans hmodel, (step_tame h).mode.trans hmode⟩

/-! ### The inputs of a step -/

theorem sample_of_script_empty {s : State} (h : s.env = []) :
    s.sample = { s with pins := { s.pins with reset := false, nmiEdge := false } } := by
  rw [State.sample, h]

theorem sample_of_script_next {s : State} {p : Pins} {rest : List Pins} (h : s.env = p :: rest) :
    s.sample = { s with pins := p, env := rest, nmiPending := s.nmiPending || p.nmiEdge } := by
  rw [State.sample, h]

theorem enterInterrupt_nmiPending (s : State) {lvl : IntLevel} (h : lvl ≠ .nmi) :
    (s.enterInterrupt lvl).nmiPending = s.nmiPending := by
  have hentry (v : Byte) : (s.exceptionEntry v s.pc (some lvl)).nmiPending = s.nmiPending := by
    obtain ⟨_, _, _, _, _, _, _, hnmi, _⟩ := exceptionEntry_frame s v s.pc (some lvl)
    exact hnmi
  cases lvl with
  | nmi => exact absurd rfl h
  | irq1 | irq2 | irq3 => exact hentry _

/-- A pending NMI outlasts a step without reset, unless the step enters it. -/
theorem nmiPending_kept {s t : State} (h : step s = .next t) (hreset : s.sample.pins.reset = false)
    (hpending : s.sample.nmiPending = true) :
    t.nmiPending = true ∨
      (s.sample.pick = some .nmi ∧ (s.sample.runState = .running → s.sample.inhibitInt = false)) := by
  obtain ⟨hpresent, _⟩ | ⟨lvl, hpick, hhold, rfl⟩ | rfl | ⟨i, n, hexec⟩ := step_cases h
  · rw [hreset] at hpresent
    cases hpresent
  · by_cases hnmi : lvl = .nmi
    · subst hnmi
      exact .inr ⟨hpick, hhold⟩
    · exact .inl ((enterInterrupt_nmiPending _ hnmi).trans hpending)
  · exact .inl hpending
  · exact .inl ((exec_effect hexec).nmi.trans hpending)

/-- Settles O6: the inputs are those of the sampled state, which the rest of the step keeps. -/
theorem inputsTakenOncePerStep : Obligations.InputsTakenOncePerStep := by
  intro s t h
  have hpins := (step_tame h).pins
  have henv := (step_tame h).env
  refine ⟨fun p rest hscript => ?_, fun hscript => ?_, fun p rest hscript hedge hreset => ?_⟩
  · rw [sample_of_script_next hscript] at hpins henv
    exact ⟨hpins, henv⟩
  · rw [sample_of_script_empty hscript] at hpins henv
    exact ⟨henv.trans hscript, hpins⟩
  · have hsample := sample_of_script_next hscript
    have hkept := nmiPending_kept h (by rw [hsample]; exact hreset) (by simp [hsample, hedge])
    obtain ⟨_, _, _, hrun, hhold, _⟩ := sample_spec s
    rwa [hrun, hhold] at hkept

end Sys2Proof.Proofs
